-- ==== Sys2Proof/Word.lean ====
section
/-! DEFINITION. The machine's words (00_scope.md R5, R7): registers, addresses and instruction words are 32-bit vectors, whose `+`,
`-` and `*` are modulo 2^32. `s32(v)` of the spec is `v.toInt`, `u32(v)` is `v.toNat`, `sext_N` is `signExtend 32`, `zext_N` is
`setWidth 32`, `trunc32(n)` is `BitVec.ofInt 32 n` or `BitVec.ofNat 32 n`. -/

namespace Sys2Proof

/-- A 32-bit word (XLEN, VA width, PA width and ILEN are all 32: 00_scope.md R5). -/
abbrev Word := BitVec 32

/-- A byte of memory (10_state.md R39). -/
abbrev Byte := BitVec 8

/-- A register number, 0 to 31 (30_encoding.md R102). Its addition wraps mod 32, as register pairs and quads do
(10_state.md R21, R22). -/
abbrev RegIdx := BitVec 5

end Sys2Proof
end

