-- ==== Sys2Proof/Syntax.lean ====
section
/-! DEFINITION. The instructions: one constructor of `Instr` for each of the 87 rows of spec/opcode_table.json, in the table's
order. Operands are the dispatch operand fields of 30_encoding.md R101, R102, R118, before any extension: register numbers of
5 bits (arithmetic on them wraps mod 32, as pairs and quads do, R21, R22), immediates and offsets of 16 bits, the trap vector
of 9 bits, and the control-register number crN of 5 bits, of which only 0 and 1 are legal (WellFormed.lean). -/

namespace Sys2Proof

/-- The instructions of the core, one constructor per row of spec/opcode_table.json. -/
inductive Instr where
  /-- `addi rd, rs1, simm16`: 40_integer.md R150. -/
  | addi (rd rs1 : RegIdx) (imm : BitVec 16)
  /-- `andi rd, rs1, uimm16`: 40_integer.md R151. -/
  | andi (rd rs1 : RegIdx) (imm : BitVec 16)
  /-- `ori rd, rs1, uimm16`: 40_integer.md R152. -/
  | ori (rd rs1 : RegIdx) (imm : BitVec 16)
  /-- `xori rd, rs1, uimm16`: 40_integer.md R153. -/
  | xori (rd rs1 : RegIdx) (imm : BitVec 16)
  /-- `oru rd, rs1, uimm16`: 40_integer.md R154. -/
  | oru (rd rs1 : RegIdx) (imm : BitVec 16)
  /-- `ldb rd, simm16(rs1)`: 45_loadstore.md R322. -/
  | ldb (rd rs1 : RegIdx) (imm : BitVec 16)
  /-- `ldbu rd, simm16(rs1)`: 45_loadstore.md R323. -/
  | ldbu (rd rs1 : RegIdx) (imm : BitVec 16)
  /-- `ldh rd, simm16(rs1)`: 45_loadstore.md R324. -/
  | ldh (rd rs1 : RegIdx) (imm : BitVec 16)
  /-- `ldhu rd, simm16(rs1)`: 45_loadstore.md R325. -/
  | ldhu (rd rs1 : RegIdx) (imm : BitVec 16)
  /-- `ldw rd, simm16(rs1)`: 45_loadstore.md R326. -/
  | ldw (rd rs1 : RegIdx) (imm : BitVec 16)
  /-- `ldd rd, simm16(rs1)`: 45_loadstore.md R327. -/
  | ldd (rd rs1 : RegIdx) (imm : BitVec 16)
  /-- `stb rs, simm16(rs1)`: 45_loadstore.md R328. -/
  | stb (rs rs1 : RegIdx) (imm : BitVec 16)
  /-- `sth rs, simm16(rs1)`: 45_loadstore.md R329. -/
  | sth (rs rs1 : RegIdx) (imm : BitVec 16)
  /-- `stw rs, simm16(rs1)`: 45_loadstore.md R330. -/
  | stw (rs rs1 : RegIdx) (imm : BitVec 16)
  /-- `std rs, simm16(rs1)`: 45_loadstore.md R331. -/
  | std (rs rs1 : RegIdx) (imm : BitVec 16)
  /-- `beq rs1, rs2, off16`: 41_control.md R201. -/
  | beq (rs1 rs2 : RegIdx) (off : BitVec 16)
  /-- `bne rs1, rs2, off16`: 41_control.md R202. -/
  | bne (rs1 rs2 : RegIdx) (off : BitVec 16)
  /-- `blt rs1, rs2, off16`: 41_control.md R203. -/
  | blt (rs1 rs2 : RegIdx) (off : BitVec 16)
  /-- `bge rs1, rs2, off16`: 41_control.md R204. -/
  | bge (rs1 rs2 : RegIdx) (off : BitVec 16)
  /-- `bgt rs1, rs2, off16`: 41_control.md R205. -/
  | bgt (rs1 rs2 : RegIdx) (off : BitVec 16)
  /-- `ble rs1, rs2, off16`: 41_control.md R206. -/
  | ble (rs1 rs2 : RegIdx) (off : BitVec 16)
  /-- `trap vec9`: 41_control.md R210. -/
  | trap (vec : BitVec 9)
  /-- `vextbi rd, rs1, imm16`: 43_vector.md R277. -/
  | vextbi (rd rs1 : RegIdx) (imm : BitVec 16)
  /-- `vinsbi rd, rs1, imm16`: 43_vector.md R279. -/
  | vinsbi (rd rs1 : RegIdx) (imm : BitVec 16)
  /-- `add rd, rs1, rs2`: 40_integer.md R140. -/
  | add (rd rs1 rs2 : RegIdx)
  /-- `sub rd, rs1, rs2`: 40_integer.md R141. -/
  | sub (rd rs1 rs2 : RegIdx)
  /-- `mul rd, rs1, rs2`: 40_integer.md R142. -/
  | mul (rd rs1 rs2 : RegIdx)
  /-- `div rd, rs1, rs2`: 40_integer.md R143. -/
  | div (rd rs1 rs2 : RegIdx)
  /-- `divu rd, rs1, rs2`: 40_integer.md R144. -/
  | divu (rd rs1 rs2 : RegIdx)
  /-- `rem rd, rs1, rs2`: 40_integer.md R145. -/
  | rem (rd rs1 rs2 : RegIdx)
  /-- `remu rd, rs1, rs2`: 40_integer.md R146. -/
  | remu (rd rs1 rs2 : RegIdx)
  /-- `muls rd, rs1, rs2`: 40_integer.md R147. -/
  | muls (rd rs1 rs2 : RegIdx)
  /-- `mulu rd, rs1, rs2`: 40_integer.md R148. -/
  | mulu (rd rs1 rs2 : RegIdx)
  /-- `divud rd, rs1, rs2`: 40_integer.md R149. -/
  | divud (rd rs1 rs2 : RegIdx)
  /-- `cmp rs1, rs2`: 40_integer.md R160. -/
  | cmp (rs1 rs2 : RegIdx)
  /-- `cmpu rs1, rs2`: 40_integer.md R161. -/
  | cmpu (rs1 rs2 : RegIdx)
  /-- `and rd, rs1, rs2`: 40_integer.md R155. -/
  | and (rd rs1 rs2 : RegIdx)
  /-- `or rd, rs1, rs2`: 40_integer.md R156. -/
  | or (rd rs1 rs2 : RegIdx)
  /-- `xor rd, rs1, rs2`: 40_integer.md R157. -/
  | xor (rd rs1 rs2 : RegIdx)
  /-- `extu rd, rs1, rs2`: 40_integer.md R159. -/
  | extu (rd rs1 rs2 : RegIdx)
  /-- `mak rd, rs1, rs2`: 40_integer.md R162. -/
  | mak (rd rs1 rs2 : RegIdx)
  /-- `rot rd, rs1, rs2`: 40_integer.md R163. -/
  | rot (rd rs1 rs2 : RegIdx)
  /-- `ff1 rd, rs1`: 40_integer.md R164. -/
  | ff1 (rd rs1 : RegIdx)
  /-- `ff0 rd, rs1`: 40_integer.md R165. -/
  | ff0 (rd rs1 : RegIdx)
  /-- `sextb rd, rs1`: 40_integer.md R166. -/
  | sextb (rd rs1 : RegIdx)
  /-- `zextb rd, rs1`: 40_integer.md R167. -/
  | zextb (rd rs1 : RegIdx)
  /-- `sexth rd, rs1`: 40_integer.md R168. -/
  | sexth (rd rs1 : RegIdx)
  /-- `zexth rd, rs1`: 40_integer.md R169. -/
  | zexth (rd rs1 : RegIdx)
  /-- `jmp rs1`: 41_control.md R207. -/
  | jmp (rs1 : RegIdx)
  /-- `jsr rs1`: 41_control.md R208. -/
  | jsr (rs1 : RegIdx)
  /-- `tbnd rs1, rs2`: 41_control.md R211. -/
  | tbnd (rs1 rs2 : RegIdx)
  /-- `rte`: 41_control.md R213. -/
  | rte
  /-- `ldcr rd, crN`: 41_control.md R214. -/
  | ldcr (rd : RegIdx) (crN : BitVec 5)
  /-- `stcr rs1, crN`: 41_control.md R215. -/
  | stcr (rs1 : RegIdx) (crN : BitVec 5)
  /-- `fadd rd, rs1, rs2`: 42_float.md R235. -/
  | fadd (rd rs1 rs2 : RegIdx)
  /-- `fsub rd, rs1, rs2`: 42_float.md R236. -/
  | fsub (rd rs1 rs2 : RegIdx)
  /-- `fmul rd, rs1, rs2`: 42_float.md R237. -/
  | fmul (rd rs1 rs2 : RegIdx)
  /-- `fdiv rd, rs1, rs2`: 42_float.md R238. -/
  | fdiv (rd rs1 rs2 : RegIdx)
  /-- `fcmp rs1, rs2`: 42_float.md R234. -/
  | fcmp (rs1 rs2 : RegIdx)
  /-- `flt rd, rs1`: 42_float.md R239. -/
  | flt (rd rs1 : RegIdx)
  /-- `int rd, rs1`: 42_float.md R240. -/
  | int (rd rs1 : RegIdx)
  /-- `vadd rd, rs1, rs2`: 43_vector.md R263. -/
  | vadd (rd rs1 rs2 : RegIdx)
  /-- `vsub rd, rs1, rs2`: 43_vector.md R264. -/
  | vsub (rd rs1 rs2 : RegIdx)
  /-- `vmul rd, rs1, rs2`: 43_vector.md R265. -/
  | vmul (rd rs1 rs2 : RegIdx)
  /-- `vdiv rd, rs1, rs2`: 43_vector.md R266. -/
  | vdiv (rd rs1 rs2 : RegIdx)
  /-- `vmov rd, rs1`: 43_vector.md R267. -/
  | vmov (rd rs1 : RegIdx)
  /-- `vcmpeq rd, rs1, rs2`: 43_vector.md R268. -/
  | vcmpeq (rd rs1 rs2 : RegIdx)
  /-- `vcmpgt rd, rs1, rs2`: 43_vector.md R269. -/
  | vcmpgt (rd rs1 rs2 : RegIdx)
  /-- `vcmplt rd, rs1, rs2`: 43_vector.md R270. -/
  | vcmplt (rd rs1 rs2 : RegIdx)
  /-- `vmin rd, rs1, rs2`: 43_vector.md R271. -/
  | vmin (rd rs1 rs2 : RegIdx)
  /-- `vmax rd, rs1, rs2`: 43_vector.md R272. -/
  | vmax (rd rs1 rs2 : RegIdx)
  /-- `vshuf rd, rs1, rs2`: 43_vector.md R273. -/
  | vshuf (rd rs1 rs2 : RegIdx)
  /-- `vinth rd, rs1, rs2`: 43_vector.md R274. -/
  | vinth (rd rs1 rs2 : RegIdx)
  /-- `vintl rd, rs1, rs2`: 43_vector.md R275. -/
  | vintl (rd rs1 rs2 : RegIdx)
  /-- `vextb rd, rs1, rs2`: 43_vector.md R276. -/
  | vextb (rd rs1 rs2 : RegIdx)
  /-- `vinsb rd, rs1, rs2`: 43_vector.md R278. -/
  | vinsb (rd rs1 rs2 : RegIdx)
  /-- `vpack rd, rs1, rs2`: 43_vector.md R280. -/
  | vpack (rd rs1 rs2 : RegIdx)
  /-- `vunpkl rd, rs1`: 43_vector.md R281. -/
  | vunpkl (rd rs1 : RegIdx)
  /-- `vunpkh rd, rs1`: 43_vector.md R282. -/
  | vunpkh (rd rs1 : RegIdx)
  /-- `icache rs1`: 44_system.md R300. -/
  | icache (rs1 : RegIdx)
  /-- `dcache rs1`: 44_system.md R301. -/
  | dcache (rs1 : RegIdx)
  /-- `flush rs1`: 44_system.md R302. -/
  | flush (rs1 : RegIdx)
  /-- `inval rs1`: 44_system.md R303. -/
  | inval (rs1 : RegIdx)
  /-- `prefetch rs1`: 44_system.md R304. -/
  | prefetch (rs1 : RegIdx)
  /-- `ldptb rs1`: 44_system.md R306. -/
  | ldptb (rs1 : RegIdx)
  /-- `tlbinv`: 44_system.md R307. -/
  | tlbinv
  /-- `xlate rd, rs1`: 44_system.md R308. -/
  | xlate (rd rs1 : RegIdx)
  deriving DecidableEq, Repr

end Sys2Proof
end

