-- ==== Sys2Proof/WellFormed.lean ====
section
/-! DEFINITION. Which terms of `Instr` are instructions. The only operand whose type admits a value the encoding does not is the
control-register number of ldcr and stcr: "only 0 and 1 are legal" (30_encoding.md R102, R105, R121). -/

namespace Sys2Proof

/-- 30_encoding.md R102, R121: the control registers are cr0 and cr1; numbers 2 to 31 are illegal. -/
def crLegal (crN : BitVec 5) : Bool := crN == 0 || crN == 1

/-- An instruction the encoding admits: the control-register number is legal where there is one. -/
def Instr.wellFormed : Instr → Bool
  | .addi _ _ _ => true
  | .andi _ _ _ => true
  | .ori _ _ _ => true
  | .xori _ _ _ => true
  | .oru _ _ _ => true
  | .ldb _ _ _ => true
  | .ldbu _ _ _ => true
  | .ldh _ _ _ => true
  | .ldhu _ _ _ => true
  | .ldw _ _ _ => true
  | .ldd _ _ _ => true
  | .stb _ _ _ => true
  | .sth _ _ _ => true
  | .stw _ _ _ => true
  | .std _ _ _ => true
  | .beq _ _ _ => true
  | .bne _ _ _ => true
  | .blt _ _ _ => true
  | .bge _ _ _ => true
  | .bgt _ _ _ => true
  | .ble _ _ _ => true
  | .trap _ => true
  | .vextbi _ _ _ => true
  | .vinsbi _ _ _ => true
  | .add _ _ _ => true
  | .sub _ _ _ => true
  | .mul _ _ _ => true
  | .div _ _ _ => true
  | .divu _ _ _ => true
  | .rem _ _ _ => true
  | .remu _ _ _ => true
  | .muls _ _ _ => true
  | .mulu _ _ _ => true
  | .divud _ _ _ => true
  | .cmp _ _ => true
  | .cmpu _ _ => true
  | .and _ _ _ => true
  | .or _ _ _ => true
  | .xor _ _ _ => true
  | .extu _ _ _ => true
  | .mak _ _ _ => true
  | .rot _ _ _ => true
  | .ff1 _ _ => true
  | .ff0 _ _ => true
  | .sextb _ _ => true
  | .zextb _ _ => true
  | .sexth _ _ => true
  | .zexth _ _ => true
  | .jmp _ => true
  | .jsr _ => true
  | .tbnd _ _ => true
  | .rte => true
  | .ldcr _ crN => crLegal crN
  | .stcr _ crN => crLegal crN
  | .fadd _ _ _ => true
  | .fsub _ _ _ => true
  | .fmul _ _ _ => true
  | .fdiv _ _ _ => true
  | .fcmp _ _ => true
  | .flt _ _ => true
  | .int _ _ => true
  | .vadd _ _ _ => true
  | .vsub _ _ _ => true
  | .vmul _ _ _ => true
  | .vdiv _ _ _ => true
  | .vmov _ _ => true
  | .vcmpeq _ _ _ => true
  | .vcmpgt _ _ _ => true
  | .vcmplt _ _ _ => true
  | .vmin _ _ _ => true
  | .vmax _ _ _ => true
  | .vshuf _ _ _ => true
  | .vinth _ _ _ => true
  | .vintl _ _ _ => true
  | .vextb _ _ _ => true
  | .vinsb _ _ _ => true
  | .vpack _ _ _ => true
  | .vunpkl _ _ => true
  | .vunpkh _ _ => true
  | .icache _ => true
  | .dcache _ => true
  | .flush _ => true
  | .inval _ => true
  | .prefetch _ => true
  | .ldptb _ => true
  | .tlbinv => true
  | .xlate _ _ => true

end Sys2Proof
end

