-- ==== Sys2Proof/Decode.lean ====
section
/-! DEFINITION. The instruction words: the fields of a word, the decoder (total, rejecting by name), the encoder, and the match and
mask rows of spec/opcode_table.json. Written from the tables of 30_encoding.md R101-R111. -/

namespace Sys2Proof

/-! ## Fields of a word (30_encoding.md R101) -/

/-- MAJOR, bits 31:26. -/
def fieldMajor (w : Word) : BitVec 6 := w.extractLsb' 26 6
/-- D, RS or A, bits 25:21. -/
def fieldD (w : Word) : RegIdx := w.extractLsb' 21 5
/-- S1 or B, bits 20:16. -/
def fieldS1 (w : Word) : RegIdx := w.extractLsb' 16 5
/-- FUNC, bits 15:5. -/
def fieldFunc (w : Word) : BitVec 11 := w.extractLsb' 5 11
/-- S2 or crN, bits 4:0. -/
def fieldS2 (w : Word) : RegIdx := w.extractLsb' 0 5
/-- IMM16 or OFF16, bits 15:0. -/
def fieldImm (w : Word) : BitVec 16 := w.extractLsb' 0 16
/-- Bits 25:9 of format T, which must be 0. -/
def fieldTrapZero (w : Word) : BitVec 17 := w.extractLsb' 9 17
/-- VEC9, bits 8:0. -/
def fieldVec (w : Word) : BitVec 9 := w.extractLsb' 0 9

/-! ## The decoder (30_encoding.md R103-R112) -/

/-- Why a word or a string of bytes is no instruction. The spec knows one outcome, `Illegal` (R111); the names tell the cases of
R111 apart and no rule depends on which one is given (DESIGN CHOICE, log 15). -/
inductive Reject where
  /-- a major opcode that R103 does not list -/
  | unassignedMajor
  /-- a FUNC value that R104-R108 do not list for the group -/
  | unassignedFunc
  /-- a nonzero bit in a field that must be 0 (R110) -/
  | nonzeroUnusedField
  /-- fewer than the four bytes of an instruction (R100) -/
  | truncated
  deriving DecidableEq, Repr

/-- An instruction whose unused fields must be zero (R110): `zero` says that they are. -/
def whenZero (zero : Bool) (i : Instr) : Except Reject Instr :=
  if zero then .ok i else .error .nonzeroUnusedField

/-- The integer group, major 0x30: 30_encoding.md R104. -/
def decodeInteger (w : Word) : Except Reject Instr :=
  match (fieldFunc w).toNat with
  | 0 => .ok (.add (fieldD w) (fieldS1 w) (fieldS2 w))
  | 1 => .ok (.sub (fieldD w) (fieldS1 w) (fieldS2 w))
  | 2 => .ok (.mul (fieldD w) (fieldS1 w) (fieldS2 w))
  | 3 => .ok (.div (fieldD w) (fieldS1 w) (fieldS2 w))
  | 4 => .ok (.divu (fieldD w) (fieldS1 w) (fieldS2 w))
  | 5 => .ok (.rem (fieldD w) (fieldS1 w) (fieldS2 w))
  | 6 => .ok (.remu (fieldD w) (fieldS1 w) (fieldS2 w))
  | 7 => .ok (.muls (fieldD w) (fieldS1 w) (fieldS2 w))
  | 8 => .ok (.mulu (fieldD w) (fieldS1 w) (fieldS2 w))
  | 9 => .ok (.divud (fieldD w) (fieldS1 w) (fieldS2 w))
  | 10 => whenZero (fieldD w == 0) (.cmp (fieldS1 w) (fieldS2 w))
  | 11 => whenZero (fieldD w == 0) (.cmpu (fieldS1 w) (fieldS2 w))
  | 16 => .ok (.and (fieldD w) (fieldS1 w) (fieldS2 w))
  | 17 => .ok (.or (fieldD w) (fieldS1 w) (fieldS2 w))
  | 18 => .ok (.xor (fieldD w) (fieldS1 w) (fieldS2 w))
  | 24 => .ok (.extu (fieldD w) (fieldS1 w) (fieldS2 w))
  | 25 => .ok (.mak (fieldD w) (fieldS1 w) (fieldS2 w))
  | 26 => .ok (.rot (fieldD w) (fieldS1 w) (fieldS2 w))
  | 27 => whenZero (fieldS2 w == 0) (.ff1 (fieldD w) (fieldS1 w))
  | 28 => whenZero (fieldS2 w == 0) (.ff0 (fieldD w) (fieldS1 w))
  | 29 => whenZero (fieldS2 w == 0) (.sextb (fieldD w) (fieldS1 w))
  | 30 => whenZero (fieldS2 w == 0) (.zextb (fieldD w) (fieldS1 w))
  | 31 => whenZero (fieldS2 w == 0) (.sexth (fieldD w) (fieldS1 w))
  | 32 => whenZero (fieldS2 w == 0) (.zexth (fieldD w) (fieldS1 w))
  | _ => .error .unassignedFunc

/-- The control group, major 0x31: 30_encoding.md R105. -/
def decodeControl (w : Word) : Except Reject Instr :=
  match (fieldFunc w).toNat with
  | 0 => whenZero (fieldD w == 0 && fieldS2 w == 0) (.jmp (fieldS1 w))
  | 1 => whenZero (fieldD w == 0 && fieldS2 w == 0) (.jsr (fieldS1 w))
  | 2 => whenZero (fieldD w == 0) (.tbnd (fieldS1 w) (fieldS2 w))
  | 3 => whenZero (fieldD w == 0 && fieldS1 w == 0 && fieldS2 w == 0) .rte
  | 4 => whenZero (fieldS1 w == 0 && crLegal (fieldS2 w)) (.ldcr (fieldD w) (fieldS2 w))
  | 5 => whenZero (fieldD w == 0 && crLegal (fieldS2 w)) (.stcr (fieldS1 w) (fieldS2 w))
  | _ => .error .unassignedFunc

/-- The float group, major 0x32: 30_encoding.md R106. -/
def decodeFloat (w : Word) : Except Reject Instr :=
  match (fieldFunc w).toNat with
  | 0 => .ok (.fadd (fieldD w) (fieldS1 w) (fieldS2 w))
  | 1 => .ok (.fsub (fieldD w) (fieldS1 w) (fieldS2 w))
  | 2 => .ok (.fmul (fieldD w) (fieldS1 w) (fieldS2 w))
  | 3 => .ok (.fdiv (fieldD w) (fieldS1 w) (fieldS2 w))
  | 4 => whenZero (fieldD w == 0) (.fcmp (fieldS1 w) (fieldS2 w))
  | 5 => whenZero (fieldS2 w == 0) (.flt (fieldD w) (fieldS1 w))
  | 6 => whenZero (fieldS2 w == 0) (.int (fieldD w) (fieldS1 w))
  | _ => .error .unassignedFunc

/-- The vector group, major 0x33: 30_encoding.md R107. -/
def decodeVector (w : Word) : Except Reject Instr :=
  match (fieldFunc w).toNat with
  | 0 => .ok (.vadd (fieldD w) (fieldS1 w) (fieldS2 w))
  | 1 => .ok (.vsub (fieldD w) (fieldS1 w) (fieldS2 w))
  | 2 => .ok (.vmul (fieldD w) (fieldS1 w) (fieldS2 w))
  | 3 => .ok (.vdiv (fieldD w) (fieldS1 w) (fieldS2 w))
  | 4 => whenZero (fieldS2 w == 0) (.vmov (fieldD w) (fieldS1 w))
  | 8 => .ok (.vcmpeq (fieldD w) (fieldS1 w) (fieldS2 w))
  | 9 => .ok (.vcmpgt (fieldD w) (fieldS1 w) (fieldS2 w))
  | 10 => .ok (.vcmplt (fieldD w) (fieldS1 w) (fieldS2 w))
  | 11 => .ok (.vmin (fieldD w) (fieldS1 w) (fieldS2 w))
  | 12 => .ok (.vmax (fieldD w) (fieldS1 w) (fieldS2 w))
  | 13 => .ok (.vshuf (fieldD w) (fieldS1 w) (fieldS2 w))
  | 14 => .ok (.vinth (fieldD w) (fieldS1 w) (fieldS2 w))
  | 15 => .ok (.vintl (fieldD w) (fieldS1 w) (fieldS2 w))
  | 16 => .ok (.vextb (fieldD w) (fieldS1 w) (fieldS2 w))
  | 17 => .ok (.vinsb (fieldD w) (fieldS1 w) (fieldS2 w))
  | 18 => .ok (.vpack (fieldD w) (fieldS1 w) (fieldS2 w))
  | 19 => whenZero (fieldS2 w == 0) (.vunpkl (fieldD w) (fieldS1 w))
  | 20 => whenZero (fieldS2 w == 0) (.vunpkh (fieldD w) (fieldS1 w))
  | _ => .error .unassignedFunc

/-- The system group, major 0x34: 30_encoding.md R108. -/
def decodeSystem (w : Word) : Except Reject Instr :=
  match (fieldFunc w).toNat with
  | 0 => whenZero (fieldD w == 0 && fieldS2 w == 0) (.icache (fieldS1 w))
  | 1 => whenZero (fieldD w == 0 && fieldS2 w == 0) (.dcache (fieldS1 w))
  | 2 => whenZero (fieldD w == 0 && fieldS2 w == 0) (.flush (fieldS1 w))
  | 3 => whenZero (fieldD w == 0 && fieldS2 w == 0) (.inval (fieldS1 w))
  | 4 => whenZero (fieldD w == 0 && fieldS2 w == 0) (.prefetch (fieldS1 w))
  | 8 => whenZero (fieldD w == 0 && fieldS2 w == 0) (.ldptb (fieldS1 w))
  | 9 => whenZero (fieldD w == 0 && fieldS1 w == 0 && fieldS2 w == 0) .tlbinv
  | 10 => whenZero (fieldS2 w == 0) (.xlate (fieldD w) (fieldS1 w))
  | _ => .error .unassignedFunc

/-- 30_encoding.md R112: `Decode(w)`, from any 32-bit word to one instruction with its operand fields or to a rejection. The major
opcodes are those of R103. -/
def decode (w : Word) : Except Reject Instr :=
  match (fieldMajor w).toNat with
  | 0x01 => .ok (.addi (fieldD w) (fieldS1 w) (fieldImm w))
  | 0x02 => .ok (.andi (fieldD w) (fieldS1 w) (fieldImm w))
  | 0x03 => .ok (.ori (fieldD w) (fieldS1 w) (fieldImm w))
  | 0x04 => .ok (.xori (fieldD w) (fieldS1 w) (fieldImm w))
  | 0x05 => .ok (.oru (fieldD w) (fieldS1 w) (fieldImm w))
  | 0x08 => .ok (.ldb (fieldD w) (fieldS1 w) (fieldImm w))
  | 0x09 => .ok (.ldbu (fieldD w) (fieldS1 w) (fieldImm w))
  | 0x0A => .ok (.ldh (fieldD w) (fieldS1 w) (fieldImm w))
  | 0x0B => .ok (.ldhu (fieldD w) (fieldS1 w) (fieldImm w))
  | 0x0C => .ok (.ldw (fieldD w) (fieldS1 w) (fieldImm w))
  | 0x0D => .ok (.ldd (fieldD w) (fieldS1 w) (fieldImm w))
  | 0x10 => .ok (.stb (fieldD w) (fieldS1 w) (fieldImm w))
  | 0x11 => .ok (.sth (fieldD w) (fieldS1 w) (fieldImm w))
  | 0x12 => .ok (.stw (fieldD w) (fieldS1 w) (fieldImm w))
  | 0x13 => .ok (.std (fieldD w) (fieldS1 w) (fieldImm w))
  | 0x18 => .ok (.beq (fieldD w) (fieldS1 w) (fieldImm w))
  | 0x19 => .ok (.bne (fieldD w) (fieldS1 w) (fieldImm w))
  | 0x1A => .ok (.blt (fieldD w) (fieldS1 w) (fieldImm w))
  | 0x1B => .ok (.bge (fieldD w) (fieldS1 w) (fieldImm w))
  | 0x1C => .ok (.bgt (fieldD w) (fieldS1 w) (fieldImm w))
  | 0x1D => .ok (.ble (fieldD w) (fieldS1 w) (fieldImm w))
  | 0x20 => whenZero (fieldTrapZero w == 0) (.trap (fieldVec w))
  | 0x21 => .ok (.vextbi (fieldD w) (fieldS1 w) (fieldImm w))
  | 0x22 => .ok (.vinsbi (fieldD w) (fieldS1 w) (fieldImm w))
  | 0x30 => decodeInteger w
  | 0x31 => decodeControl w
  | 0x32 => decodeFloat w
  | 0x33 => decodeVector w
  | 0x34 => decodeSystem w
  | _ => .error .unassignedMajor

/-- A word from its four bytes, the most significant first (20_memory.md R64). -/
def wordOfBytes (b0 b1 b2 b3 : Byte) : Word := b0 ++ b1 ++ b2 ++ b3

/-- The decoder on a string of bytes in memory order: it always consumes four bytes (30_encoding.md R100). -/
def decodeBytes : List Byte → Except Reject (Instr × List Byte)
  | b0 :: b1 :: b2 :: b3 :: rest => (decode (wordOfBytes b0 b1 b2 b3)).map (fun i => (i, rest))
  | _ => .error .truncated

/-! ## The encoder (30_encoding.md R101, R103-R109) -/

/-- Format R. -/
def formatR (major : BitVec 6) (d s1 : RegIdx) (func : BitVec 11) (s2 : RegIdx) : Word := major ++ d ++ s1 ++ func ++ s2
/-- Formats I, S and B: two register fields and 16 bits. -/
def formatI (major : BitVec 6) (d s1 : RegIdx) (imm : BitVec 16) : Word := major ++ d ++ s1 ++ imm
/-- Format T. -/
def formatT (major : BitVec 6) (vec : BitVec 9) : Word := major ++ (0 : BitVec 17) ++ vec

/-- The word of a well-formed instruction. -/
def encode : Instr → Word
  | .addi rd rs1 imm => formatI 0x01 rd rs1 imm
  | .andi rd rs1 imm => formatI 0x02 rd rs1 imm
  | .ori rd rs1 imm => formatI 0x03 rd rs1 imm
  | .xori rd rs1 imm => formatI 0x04 rd rs1 imm
  | .oru rd rs1 imm => formatI 0x05 rd rs1 imm
  | .ldb rd rs1 imm => formatI 0x08 rd rs1 imm
  | .ldbu rd rs1 imm => formatI 0x09 rd rs1 imm
  | .ldh rd rs1 imm => formatI 0x0A rd rs1 imm
  | .ldhu rd rs1 imm => formatI 0x0B rd rs1 imm
  | .ldw rd rs1 imm => formatI 0x0C rd rs1 imm
  | .ldd rd rs1 imm => formatI 0x0D rd rs1 imm
  | .stb rs rs1 imm => formatI 0x10 rs rs1 imm
  | .sth rs rs1 imm => formatI 0x11 rs rs1 imm
  | .stw rs rs1 imm => formatI 0x12 rs rs1 imm
  | .std rs rs1 imm => formatI 0x13 rs rs1 imm
  | .beq rs1 rs2 off => formatI 0x18 rs1 rs2 off
  | .bne rs1 rs2 off => formatI 0x19 rs1 rs2 off
  | .blt rs1 rs2 off => formatI 0x1A rs1 rs2 off
  | .bge rs1 rs2 off => formatI 0x1B rs1 rs2 off
  | .bgt rs1 rs2 off => formatI 0x1C rs1 rs2 off
  | .ble rs1 rs2 off => formatI 0x1D rs1 rs2 off
  | .trap vec => formatT 0x20 vec
  | .vextbi rd rs1 imm => formatI 0x21 rd rs1 imm
  | .vinsbi rd rs1 imm => formatI 0x22 rd rs1 imm
  | .add rd rs1 rs2 => formatR 0x30 rd rs1 0 rs2
  | .sub rd rs1 rs2 => formatR 0x30 rd rs1 1 rs2
  | .mul rd rs1 rs2 => formatR 0x30 rd rs1 2 rs2
  | .div rd rs1 rs2 => formatR 0x30 rd rs1 3 rs2
  | .divu rd rs1 rs2 => formatR 0x30 rd rs1 4 rs2
  | .rem rd rs1 rs2 => formatR 0x30 rd rs1 5 rs2
  | .remu rd rs1 rs2 => formatR 0x30 rd rs1 6 rs2
  | .muls rd rs1 rs2 => formatR 0x30 rd rs1 7 rs2
  | .mulu rd rs1 rs2 => formatR 0x30 rd rs1 8 rs2
  | .divud rd rs1 rs2 => formatR 0x30 rd rs1 9 rs2
  | .cmp rs1 rs2 => formatR 0x30 0 rs1 10 rs2
  | .cmpu rs1 rs2 => formatR 0x30 0 rs1 11 rs2
  | .and rd rs1 rs2 => formatR 0x30 rd rs1 16 rs2
  | .or rd rs1 rs2 => formatR 0x30 rd rs1 17 rs2
  | .xor rd rs1 rs2 => formatR 0x30 rd rs1 18 rs2
  | .extu rd rs1 rs2 => formatR 0x30 rd rs1 24 rs2
  | .mak rd rs1 rs2 => formatR 0x30 rd rs1 25 rs2
  | .rot rd rs1 rs2 => formatR 0x30 rd rs1 26 rs2
  | .ff1 rd rs1 => formatR 0x30 rd rs1 27 0
  | .ff0 rd rs1 => formatR 0x30 rd rs1 28 0
  | .sextb rd rs1 => formatR 0x30 rd rs1 29 0
  | .zextb rd rs1 => formatR 0x30 rd rs1 30 0
  | .sexth rd rs1 => formatR 0x30 rd rs1 31 0
  | .zexth rd rs1 => formatR 0x30 rd rs1 32 0
  | .jmp rs1 => formatR 0x31 0 rs1 0 0
  | .jsr rs1 => formatR 0x31 0 rs1 1 0
  | .tbnd rs1 rs2 => formatR 0x31 0 rs1 2 rs2
  | .rte => formatR 0x31 0 0 3 0
  | .ldcr rd crN => formatR 0x31 rd 0 4 crN
  | .stcr rs1 crN => formatR 0x31 0 rs1 5 crN
  | .fadd rd rs1 rs2 => formatR 0x32 rd rs1 0 rs2
  | .fsub rd rs1 rs2 => formatR 0x32 rd rs1 1 rs2
  | .fmul rd rs1 rs2 => formatR 0x32 rd rs1 2 rs2
  | .fdiv rd rs1 rs2 => formatR 0x32 rd rs1 3 rs2
  | .fcmp rs1 rs2 => formatR 0x32 0 rs1 4 rs2
  | .flt rd rs1 => formatR 0x32 rd rs1 5 0
  | .int rd rs1 => formatR 0x32 rd rs1 6 0
  | .vadd rd rs1 rs2 => formatR 0x33 rd rs1 0 rs2
  | .vsub rd rs1 rs2 => formatR 0x33 rd rs1 1 rs2
  | .vmul rd rs1 rs2 => formatR 0x33 rd rs1 2 rs2
  | .vdiv rd rs1 rs2 => formatR 0x33 rd rs1 3 rs2
  | .vmov rd rs1 => formatR 0x33 rd rs1 4 0
  | .vcmpeq rd rs1 rs2 => formatR 0x33 rd rs1 8 rs2
  | .vcmpgt rd rs1 rs2 => formatR 0x33 rd rs1 9 rs2
  | .vcmplt rd rs1 rs2 => formatR 0x33 rd rs1 10 rs2
  | .vmin rd rs1 rs2 => formatR 0x33 rd rs1 11 rs2
  | .vmax rd rs1 rs2 => formatR 0x33 rd rs1 12 rs2
  | .vshuf rd rs1 rs2 => formatR 0x33 rd rs1 13 rs2
  | .vinth rd rs1 rs2 => formatR 0x33 rd rs1 14 rs2
  | .vintl rd rs1 rs2 => formatR 0x33 rd rs1 15 rs2
  | .vextb rd rs1 rs2 => formatR 0x33 rd rs1 16 rs2
  | .vinsb rd rs1 rs2 => formatR 0x33 rd rs1 17 rs2
  | .vpack rd rs1 rs2 => formatR 0x33 rd rs1 18 rs2
  | .vunpkl rd rs1 => formatR 0x33 rd rs1 19 0
  | .vunpkh rd rs1 => formatR 0x33 rd rs1 20 0
  | .icache rs1 => formatR 0x34 0 rs1 0 0
  | .dcache rs1 => formatR 0x34 0 rs1 1 0
  | .flush rs1 => formatR 0x34 0 rs1 2 0
  | .inval rs1 => formatR 0x34 0 rs1 3 0
  | .prefetch rs1 => formatR 0x34 0 rs1 4 0
  | .ldptb rs1 => formatR 0x34 0 rs1 8 0
  | .tlbinv => formatR 0x34 0 0 9 0
  | .xlate rd rs1 => formatR 0x34 rd rs1 10 0

/-- The four bytes of an instruction in memory order. -/
def encodeBytes (i : Instr) : List Byte :=
  let w := encode i
  [w.extractLsb' 24 8, w.extractLsb' 16 8, w.extractLsb' 8 8, w.extractLsb' 0 8]

/-! ## The opcode table (30_encoding.md R104-R109, R111) -/

/-- One row of spec/opcode_table.json. A word `w` is of the row when `w &&& mask = pattern`. -/
structure OpcodeRow where
  mnemonic : String
  pattern : Word
  mask : Word
  deriving DecidableEq, Repr

/-- R111: `(w & mask) = match`. -/
def OpcodeRow.fits (r : OpcodeRow) (w : Word) : Bool := w &&& r.mask == r.pattern

/-- The rows of formats I, S, B and T: 30_encoding.md R109. -/
def rowsImmediate : List OpcodeRow := [
  ⟨"addi", 0x0400_0000, 0xFC00_0000⟩,
  ⟨"andi", 0x0800_0000, 0xFC00_0000⟩,
  ⟨"ori", 0x0C00_0000, 0xFC00_0000⟩,
  ⟨"xori", 0x1000_0000, 0xFC00_0000⟩,
  ⟨"oru", 0x1400_0000, 0xFC00_0000⟩,
  ⟨"ldb", 0x2000_0000, 0xFC00_0000⟩,
  ⟨"ldbu", 0x2400_0000, 0xFC00_0000⟩,
  ⟨"ldh", 0x2800_0000, 0xFC00_0000⟩,
  ⟨"ldhu", 0x2C00_0000, 0xFC00_0000⟩,
  ⟨"ldw", 0x3000_0000, 0xFC00_0000⟩,
  ⟨"ldd", 0x3400_0000, 0xFC00_0000⟩,
  ⟨"stb", 0x4000_0000, 0xFC00_0000⟩,
  ⟨"sth", 0x4400_0000, 0xFC00_0000⟩,
  ⟨"stw", 0x4800_0000, 0xFC00_0000⟩,
  ⟨"std", 0x4C00_0000, 0xFC00_0000⟩,
  ⟨"beq", 0x6000_0000, 0xFC00_0000⟩,
  ⟨"bne", 0x6400_0000, 0xFC00_0000⟩,
  ⟨"blt", 0x6800_0000, 0xFC00_0000⟩,
  ⟨"bge", 0x6C00_0000, 0xFC00_0000⟩,
  ⟨"bgt", 0x7000_0000, 0xFC00_0000⟩,
  ⟨"ble", 0x7400_0000, 0xFC00_0000⟩,
  ⟨"trap", 0x8000_0000, 0xFFFF_FE00⟩,
  ⟨"vextbi", 0x8400_0000, 0xFC00_0000⟩,
  ⟨"vinsbi", 0x8800_0000, 0xFC00_0000⟩]

/-- The integer group: 30_encoding.md R104. -/
def rowsInteger : List OpcodeRow := [
  ⟨"add", 0xC000_0000, 0xFC00_FFE0⟩,
  ⟨"sub", 0xC000_0020, 0xFC00_FFE0⟩,
  ⟨"mul", 0xC000_0040, 0xFC00_FFE0⟩,
  ⟨"div", 0xC000_0060, 0xFC00_FFE0⟩,
  ⟨"divu", 0xC000_0080, 0xFC00_FFE0⟩,
  ⟨"rem", 0xC000_00A0, 0xFC00_FFE0⟩,
  ⟨"remu", 0xC000_00C0, 0xFC00_FFE0⟩,
  ⟨"muls", 0xC000_00E0, 0xFC00_FFE0⟩,
  ⟨"mulu", 0xC000_0100, 0xFC00_FFE0⟩,
  ⟨"divud", 0xC000_0120, 0xFC00_FFE0⟩,
  ⟨"cmp", 0xC000_0140, 0xFFE0_FFE0⟩,
  ⟨"cmpu", 0xC000_0160, 0xFFE0_FFE0⟩,
  ⟨"and", 0xC000_0200, 0xFC00_FFE0⟩,
  ⟨"or", 0xC000_0220, 0xFC00_FFE0⟩,
  ⟨"xor", 0xC000_0240, 0xFC00_FFE0⟩,
  ⟨"extu", 0xC000_0300, 0xFC00_FFE0⟩,
  ⟨"mak", 0xC000_0320, 0xFC00_FFE0⟩,
  ⟨"rot", 0xC000_0340, 0xFC00_FFE0⟩,
  ⟨"ff1", 0xC000_0360, 0xFC00_FFFF⟩,
  ⟨"ff0", 0xC000_0380, 0xFC00_FFFF⟩,
  ⟨"sextb", 0xC000_03A0, 0xFC00_FFFF⟩,
  ⟨"zextb", 0xC000_03C0, 0xFC00_FFFF⟩,
  ⟨"sexth", 0xC000_03E0, 0xFC00_FFFF⟩,
  ⟨"zexth", 0xC000_0400, 0xFC00_FFFF⟩]

/-- The control group: 30_encoding.md R105. -/
def rowsControl : List OpcodeRow := [
  ⟨"jmp", 0xC400_0000, 0xFFE0_FFFF⟩,
  ⟨"jsr", 0xC400_0020, 0xFFE0_FFFF⟩,
  ⟨"tbnd", 0xC400_0040, 0xFFE0_FFE0⟩,
  ⟨"rte", 0xC400_0060, 0xFFFF_FFFF⟩,
  ⟨"ldcr", 0xC400_0080, 0xFC1F_FFFE⟩,
  ⟨"stcr", 0xC400_00A0, 0xFFE0_FFFE⟩]

/-- The float group: 30_encoding.md R106. -/
def rowsFloat : List OpcodeRow := [
  ⟨"fadd", 0xC800_0000, 0xFC00_FFE0⟩,
  ⟨"fsub", 0xC800_0020, 0xFC00_FFE0⟩,
  ⟨"fmul", 0xC800_0040, 0xFC00_FFE0⟩,
  ⟨"fdiv", 0xC800_0060, 0xFC00_FFE0⟩,
  ⟨"fcmp", 0xC800_0080, 0xFFE0_FFE0⟩,
  ⟨"flt", 0xC800_00A0, 0xFC00_FFFF⟩,
  ⟨"int", 0xC800_00C0, 0xFC00_FFFF⟩]

/-- The vector group: 30_encoding.md R107. -/
def rowsVector : List OpcodeRow := [
  ⟨"vadd", 0xCC00_0000, 0xFC00_FFE0⟩,
  ⟨"vsub", 0xCC00_0020, 0xFC00_FFE0⟩,
  ⟨"vmul", 0xCC00_0040, 0xFC00_FFE0⟩,
  ⟨"vdiv", 0xCC00_0060, 0xFC00_FFE0⟩,
  ⟨"vmov", 0xCC00_0080, 0xFC00_FFFF⟩,
  ⟨"vcmpeq", 0xCC00_0100, 0xFC00_FFE0⟩,
  ⟨"vcmpgt", 0xCC00_0120, 0xFC00_FFE0⟩,
  ⟨"vcmplt", 0xCC00_0140, 0xFC00_FFE0⟩,
  ⟨"vmin", 0xCC00_0160, 0xFC00_FFE0⟩,
  ⟨"vmax", 0xCC00_0180, 0xFC00_FFE0⟩,
  ⟨"vshuf", 0xCC00_01A0, 0xFC00_FFE0⟩,
  ⟨"vinth", 0xCC00_01C0, 0xFC00_FFE0⟩,
  ⟨"vintl", 0xCC00_01E0, 0xFC00_FFE0⟩,
  ⟨"vextb", 0xCC00_0200, 0xFC00_FFE0⟩,
  ⟨"vinsb", 0xCC00_0220, 0xFC00_FFE0⟩,
  ⟨"vpack", 0xCC00_0240, 0xFC00_FFE0⟩,
  ⟨"vunpkl", 0xCC00_0260, 0xFC00_FFFF⟩,
  ⟨"vunpkh", 0xCC00_0280, 0xFC00_FFFF⟩]

/-- The system group: 30_encoding.md R108. -/
def rowsSystem : List OpcodeRow := [
  ⟨"icache", 0xD000_0000, 0xFFE0_FFFF⟩,
  ⟨"dcache", 0xD000_0020, 0xFFE0_FFFF⟩,
  ⟨"flush", 0xD000_0040, 0xFFE0_FFFF⟩,
  ⟨"inval", 0xD000_0060, 0xFFE0_FFFF⟩,
  ⟨"prefetch", 0xD000_0080, 0xFFE0_FFFF⟩,
  ⟨"ldptb", 0xD000_0100, 0xFFE0_FFFF⟩,
  ⟨"tlbinv", 0xD000_0120, 0xFFFF_FFFF⟩,
  ⟨"xlate", 0xD000_0140, 0xFC00_FFFF⟩]

/-- All 87 rows of spec/opcode_table.json. -/
def opcodeRows : List OpcodeRow :=
  rowsImmediate ++ rowsInteger ++ rowsControl ++ rowsFloat ++ rowsVector ++ rowsSystem

/-- The mnemonic of an instruction, as spec/opcode_table.json spells it. -/
def Instr.mnemonic : Instr → String
  | .addi _ _ _ => "addi"
  | .andi _ _ _ => "andi"
  | .ori _ _ _ => "ori"
  | .xori _ _ _ => "xori"
  | .oru _ _ _ => "oru"
  | .ldb _ _ _ => "ldb"
  | .ldbu _ _ _ => "ldbu"
  | .ldh _ _ _ => "ldh"
  | .ldhu _ _ _ => "ldhu"
  | .ldw _ _ _ => "ldw"
  | .ldd _ _ _ => "ldd"
  | .stb _ _ _ => "stb"
  | .sth _ _ _ => "sth"
  | .stw _ _ _ => "stw"
  | .std _ _ _ => "std"
  | .beq _ _ _ => "beq"
  | .bne _ _ _ => "bne"
  | .blt _ _ _ => "blt"
  | .bge _ _ _ => "bge"
  | .bgt _ _ _ => "bgt"
  | .ble _ _ _ => "ble"
  | .trap _ => "trap"
  | .vextbi _ _ _ => "vextbi"
  | .vinsbi _ _ _ => "vinsbi"
  | .add _ _ _ => "add"
  | .sub _ _ _ => "sub"
  | .mul _ _ _ => "mul"
  | .div _ _ _ => "div"
  | .divu _ _ _ => "divu"
  | .rem _ _ _ => "rem"
  | .remu _ _ _ => "remu"
  | .muls _ _ _ => "muls"
  | .mulu _ _ _ => "mulu"
  | .divud _ _ _ => "divud"
  | .cmp _ _ => "cmp"
  | .cmpu _ _ => "cmpu"
  | .and _ _ _ => "and"
  | .or _ _ _ => "or"
  | .xor _ _ _ => "xor"
  | .extu _ _ _ => "extu"
  | .mak _ _ _ => "mak"
  | .rot _ _ _ => "rot"
  | .ff1 _ _ => "ff1"
  | .ff0 _ _ => "ff0"
  | .sextb _ _ => "sextb"
  | .zextb _ _ => "zextb"
  | .sexth _ _ => "sexth"
  | .zexth _ _ => "zexth"
  | .jmp _ => "jmp"
  | .jsr _ => "jsr"
  | .tbnd _ _ => "tbnd"
  | .rte => "rte"
  | .ldcr _ _ => "ldcr"
  | .stcr _ _ => "stcr"
  | .fadd _ _ _ => "fadd"
  | .fsub _ _ _ => "fsub"
  | .fmul _ _ _ => "fmul"
  | .fdiv _ _ _ => "fdiv"
  | .fcmp _ _ => "fcmp"
  | .flt _ _ => "flt"
  | .int _ _ => "int"
  | .vadd _ _ _ => "vadd"
  | .vsub _ _ _ => "vsub"
  | .vmul _ _ _ => "vmul"
  | .vdiv _ _ _ => "vdiv"
  | .vmov _ _ => "vmov"
  | .vcmpeq _ _ _ => "vcmpeq"
  | .vcmpgt _ _ _ => "vcmpgt"
  | .vcmplt _ _ _ => "vcmplt"
  | .vmin _ _ _ => "vmin"
  | .vmax _ _ _ => "vmax"
  | .vshuf _ _ _ => "vshuf"
  | .vinth _ _ _ => "vinth"
  | .vintl _ _ _ => "vintl"
  | .vextb _ _ _ => "vextb"
  | .vinsb _ _ _ => "vinsb"
  | .vpack _ _ _ => "vpack"
  | .vunpkl _ _ => "vunpkl"
  | .vunpkh _ _ => "vunpkh"
  | .icache _ => "icache"
  | .dcache _ => "dcache"
  | .flush _ => "flush"
  | .inval _ => "inval"
  | .prefetch _ => "prefetch"
  | .ldptb _ => "ldptb"
  | .tlbinv => "tlbinv"
  | .xlate _ _ => "xlate"

/-! ## What the host asks of the decoder -/

/-- The instruction the decoder reads from an instruction whose bits are `w`, bit 0 the least significant bit of its (only) word,
every bit above `nbits` zero: the word's bytes are laid out big-endian and given to `decodeBytes`. -/
def decodeTableWord (nbits w : Nat) : Option Instr :=
  let v : Word := BitVec.ofNat 32 (w % 2 ^ nbits)
  match decodeBytes [v.extractLsb' 24 8, v.extractLsb' 16 8, v.extractLsb' 8 8, v.extractLsb' 0 8] with
  | .ok (i, _) => some i
  | .error _ => none

end Sys2Proof
end

