-- ==== Sys2Proof/Machine/Ieee.lean ====
section
/-! DEFINITION. IEEE-754 binary32 on bit patterns (00_scope.md R11, 42_float.md R230-R232): every operation computes the exact value
and rounds once, to nearest with ties to even. A finite value is a whole number of units of 2^-149, the smallest subnormal, so that
exact arithmetic is arithmetic of integers. The sub-cases R11 leaves to the standard are named in log 10. -/

namespace Sys2Proof.Machine

open Sys2Proof

/-! ## Classes of patterns (00_scope.md R11) -/

/-- R11: `w[30:23] = 0xFF and w[22:0] != 0`. -/
def isNaN (w : Word) : Bool := w.extractLsb' 23 8 == 0xFF && w.extractLsb' 0 23 != 0
/-- R11: `w[30:23] = 0xFF and w[22:0] = 0`. -/
def isInf (w : Word) : Bool := w.extractLsb' 23 8 == 0xFF && w.extractLsb' 0 23 == 0
/-- R11: `w[30:0] = 0`, so both zeros count. -/
def isZero (w : Word) : Bool := w.extractLsb' 0 31 == 0
/-- R11: `w[31]`. -/
def signBit (w : Word) : Bool := w.getLsbD 31

/-- The canonical quiet NaN, the value of every NaN result (42_float.md R232). -/
def canonicalNaN : Word := 0x7FC0_0000
/-- A pattern from its sign and its 31 bits of magnitude. -/
def withSign (neg : Bool) (magnitude : BitVec 31) : Word := BitVec.ofBool neg ++ magnitude
/-- The infinity of a sign. -/
def infinity (neg : Bool) : Word := withSign neg 0x7F80_0000
/-- The zero of a sign. -/
def signedZero (neg : Bool) : Word := withSign neg 0
/-- A pattern with its sign bit flipped. -/
def negated (w : Word) : Word := w ^^^ 0x8000_0000

/-! ## Exact values -/

/-- The magnitude of a finite pattern in units of 2^-149 (R230: biased exponent in bits 30:23, fraction in bits 22:0; exponent 0 is
zero or subnormal). The pattern of an infinity reads as 2^277, beyond every finite magnitude. -/
def magnitude (w : Word) : Nat :=
  let e := (w.extractLsb' 23 8).toNat
  let f := (w.extractLsb' 0 23).toNat
  if e = 0 then f else (2 ^ 23 + f) * 2 ^ (e - 1)

/-- The exact value of a finite pattern in units of 2^-149. -/
def exactValue (w : Word) : Int := if signBit w then -(magnitude w : Int) else magnitude w

/-- One, in units of 2^-149. -/
def unitsPerOne : Nat := 2 ^ 149

/-! ## Rounding (42_float.md R231) -/

/-- `n / d` rounded to the nearest integer, ties to even. -/
def divNearestEven (n d : Nat) : Nat :=
  let q := n / d
  let r := n % d
  if 2 * r < d then q else if d < 2 * r then q + 1 else q + q % 2

/-- The 31 bits of magnitude of the binary32 value nearest to `n / d` units, ties to even. Below 2^24 units the values are the whole
numbers of units; above, each binade has 2^23 values, `2^k` units apart. A carry out of the significand moves the exponent up by
itself, and everything from 2^128 on is infinity. Subnormals are kept (R231). -/
def roundMagnitude (n d : Nat) : Nat :=
  let k := Nat.log2 (n / d) - 23
  min 0x7F80_0000 (k * 2 ^ 23 + divNearestEven n (d * 2 ^ k))

/-- The binary32 pattern nearest to `n / d` units, of the given sign. -/
def roundTo (neg : Bool) (n d : Nat) : Word := withSign neg (BitVec.ofNat 31 (roundMagnitude n d))

/-! ## Arithmetic (00_scope.md R11) -/

/-- R11: `fadd32`. A sum that is exactly zero is -0 only when both operands are negative zeros. -/
def fadd32 (a b : Word) : Word :=
  if isNaN a || isNaN b then canonicalNaN
  else if isInf a then (if isInf b && signBit a != signBit b then canonicalNaN else a)
  else if isInf b then b
  else
    let v := exactValue a + exactValue b
    roundTo (if v = 0 then signBit a && signBit b else decide (v < 0)) v.natAbs 1

/-- R11: `fsub32`: the sum with the second operand negated. -/
def fsub32 (a b : Word) : Word := fadd32 a (negated b)

/-- R11: `fmul32`. Zero times infinity is NaN; otherwise the sign is the exclusive or of the signs. -/
def fmul32 (a b : Word) : Word :=
  let neg := signBit a != signBit b
  if isNaN a || isNaN b then canonicalNaN
  else if isInf a || isInf b then (if isZero a || isZero b then canonicalNaN else infinity neg)
  else roundTo neg (magnitude a * magnitude b) unitsPerOne

/-- R11: `fdiv32`. Infinity over infinity and zero over zero are NaN. The two divide instructions treat a zero divisor themselves
(42_float.md R238, 43_vector.md R266) and never ask for one here. -/
def fdiv32 (a b : Word) : Word :=
  let neg := signBit a != signBit b
  if isNaN a || isNaN b then canonicalNaN
  else if isInf a then (if isInf b then canonicalNaN else infinity neg)
  else if isInf b then signedZero neg
  else if isZero b then (if isZero a then canonicalNaN else infinity neg)
  else roundTo neg (magnitude a * unitsPerOne) (magnitude b)

/-- R11: `i32_to_f32`. -/
def i32ToF32 (n : Int) : Word := roundTo (decide (n < 0)) (n.natAbs * unitsPerOne) 1

/-- The exact value of a finite pattern rounded to the nearest integer, ties to even (42_float.md R240). -/
def roundTiesEven (w : Word) : Int :=
  let m := divNearestEven (magnitude w) unitsPerOne
  if signBit w then -(m : Int) else m

/-! ## Order (42_float.md R234) -/

/-- `a < b` in the IEEE ordering, neither operand a NaN. The zeros are equal, and an infinity lies beyond every finite value. -/
def fless (a b : Word) : Bool := decide (exactValue a < exactValue b)

end Sys2Proof.Machine
end

