-- ==== Sys2Proof/Config.lean ====
section
/-! DEFINITION. What an implementation fixes, and the one value the spec leaves open. -/

namespace Sys2Proof.Config

/-- The default of the open parameter MEM_SIZE, 16 MiB (00_scope.md R5, D56). The size itself is a field of State, which the host
chooses at reset (60_exceptions.md R375; log 5). -/
def defaultMemSize : Nat := 0x0100_0000

/-- The default of the open parameter HALT_PC: none (00_scope.md R5, D51). The predicates about runs take it as an argument
(log 7). -/
def defaultHaltPc : Option Word := none

/-- The open value of the spec: what `xlate` writes to rd when the translation fails, "any 32-bit value" (44_system.md R308, U1).
`freeWord n` is the n-th such draw; it has no body, so nothing can be proved about it (log 3). -/
opaque freeWord : Nat → Word

end Sys2Proof.Config
end

