-- ==== Sys2Proof/Machine/State.lean ====
section
/-! DEFINITION. The architectural state (10_state.md), the state after reset (70_reset_and_hazards.md R391), and the reasons a step
of the machine can stop. -/

namespace Sys2Proof.Machine

open Sys2Proof

/-- The privilege level (10_state.md R34, 60_exceptions.md R364). -/
inductive Priv where
  | user
  | supervisor
  deriving DecidableEq, Repr

/-- The decoder events that halt the core (10_state.md R40, 60_exceptions.md R353). -/
inductive HaltReason where
  /-- pc is not word-aligned -/
  | fetchMisaligned
  /-- the translation of the fetch fails with a page fault -/
  | fetchPageFault
  /-- the fetch or its page-table entry lies beyond physical memory -/
  | fetchAddrError
  /-- the word is no instruction -/
  | illegal
  deriving DecidableEq, Repr

/-- Running or Halted(reason) (10_state.md R40). -/
inductive RunState where
  | running
  | halted (reason : HaltReason)
  deriving DecidableEq, Repr

/-- Physical memory as the list of its bytes that are not zero, addresses strictly rising. An address that is not listed reads as
0, the reset value of every byte (10_state.md R39; log 6). -/
abbrev Memory := List Host.Cell

/-- The machine's state: every piece of state of 10_state.md under the spec's own name, and the model's own counter `freeCount`. -/
structure State where
  /-- r0 to r31 (R20) -/
  regs : Vector Word 32
  /-- the address of the executing instruction (R31) -/
  pc : Word
  /-- next instruction pointer (R32) -/
  nip : Word
  /-- fetch instruction pointer (R32) -/
  fip : Word
  /-- shadow of pc (R33) -/
  sxip : Word
  /-- shadow of nip (R33) -/
  snip : Word
  /-- shadow of fip (R33) -/
  sfip : Word
  /-- the condition and status register CR0 (R23-R30) -/
  cr0 : Word
  /-- the trap-vector field (R35) -/
  tvec : BitVec 9
  /-- the page-table base (R36) -/
  ptb : Word
  /-- MMU enabled (R37) -/
  mmuEn : Bool
  /-- the privilege level (R34) -/
  priv : Priv
  /-- Running or Halted (R40) -/
  run : RunState
  /-- physical memory (R39) -/
  mem : Memory
  /-- MEM_SIZE, the number of bytes of physical memory, chosen at reset (00_scope.md R5; log 5) -/
  memSize : Nat
  /-- the MODEL's own: how many open values have been drawn (`Config.freeWord`; logs 3, 4) -/
  freeCount : Nat
  deriving DecidableEq, Repr

/-- 70_reset_and_hazards.md R391, with MEM_SIZE as the host chooses it (60_exceptions.md R375). -/
def State.resetWith (memSize : Nat) : State where
  regs := Vector.replicate 32 0
  pc := 0
  nip := 0
  fip := 0
  sxip := 0
  snip := 0
  sfip := 0
  cr0 := 0
  tvec := 0
  ptb := 0
  mmuEn := false
  priv := .supervisor
  run := .running
  mem := []
  memSize := memSize
  freeCount := 0

/-- The machine right after reset, MEM_SIZE at its default of 16 MiB (R391). -/
def State.reset : State := State.resetWith Config.defaultMemSize

/-- Why the machine has no step. -/
inductive Fault where
  /-- Raised by `step` in a halted state: "a halted core has no step" (30_encoding.md R123, 60_exceptions.md R353), a fault end of
  a run (R376). Safe: the model stops exactly where the spec gives no step (log 1). -/
  | halted (reason : HaltReason)
  deriving DecidableEq, Repr

/-- What the model turns away. -/
inductive Refusal where
  /-- Raised by an arm of `exec` whose instruction has no meaning yet. Safe. No arm raises it. -/
  | notModelled (mnemonic : String)
  /-- Raised by a host action that names a physical byte at or beyond MEM_SIZE, an interaction outside the table of
  60_exceptions.md R375, which has no meaning (I10). No instruction raises it. Safe. -/
  | noSuchByte
  deriving DecidableEq, Repr

/-- What one step or one instruction comes to. -/
abbrev Result := Host.Outcome State Fault Refusal

end Sys2Proof.Machine
end

