-- ==== Sys2Proof/Machine/Flags.lean ====
section
/-! DEFINITION. The bits of CR0 (10_state.md R24) and every computation of a flag. -/

namespace Sys2Proof.Machine

open Sys2Proof

/-- The defined fields of CR0, under the names of 10_state.md R24. -/
inductive Flag where
  | EQ | LT | GT | UN
  | FEQ | FLT | FGT | FUN
  | DZ | NX | NV | OF | UF
  | BND | TRP | PF | WP | PRV | AE | ILL
  deriving DecidableEq, Repr

/-- The bit of CR0 a flag is (R24); it is also the cause code of an exception (60_exceptions.md R351). -/
def Flag.bit : Flag → Nat
  | .EQ => 0 | .LT => 1 | .GT => 2 | .UN => 3
  | .FEQ => 4 | .FLT => 5 | .FGT => 6 | .FUN => 7
  | .DZ => 8 | .NX => 9 | .NV => 10 | .OF => 11 | .UF => 12
  | .BND => 16 | .TRP => 17 | .PF => 18 | .WP => 19 | .PRV => 20 | .AE => 21 | .ILL => 22

/-- The word with only this flag's bit. -/
def Flag.mask (f : Flag) : Word := BitVec.twoPow 32 f.bit

/-- R24: the mask of the defined bits. -/
def cr0Defined : Word := 0x007F_1FFF

/-- The FP-compare sub-field, CR0[7:4] (R26). -/
def floatCompareField : Word := 0x0000_00F0

/-- `CR0.F` (00_scope.md R8). -/
def State.flag (s : State) (f : Flag) : Bool := s.cr0.getLsbD f.bit

/-- `setflag(F)` (00_scope.md R8): sets one bit and changes no other. -/
def State.setFlag (s : State) (f : Flag) : State := { s with cr0 := s.cr0 ||| f.mask }

/-- `if c: setflag(F)`. -/
def State.setFlagIf (s : State) (c : Bool) (f : Flag) : State := if c then s.setFlag f else s

/-- A word with one flag's bit made `b`. -/
def assignFlag (w : Word) (f : Flag) (b : Bool) : Word := if b then w ||| f.mask else w &&& ~~~f.mask

/-- 40_integer.md R160, R161: EQ, LT and GT are written, UN and every other bit keep their value. -/
def State.setIntCompare (s : State) (eq lt gt : Bool) : State :=
  { s with cr0 := assignFlag (assignFlag (assignFlag s.cr0 .EQ eq) .LT lt) .GT gt }

/-- 42_float.md R234: the FP-compare sub-field is cleared, then one of its flags is set. -/
def State.setFloatCompare (s : State) (f : Flag) : State :=
  { s with cr0 := (s.cr0 &&& ~~~floatCompareField) ||| f.mask }

/-- 10_state.md R29, 41_control.md R215: a write of the whole register keeps only the defined bits. -/
def State.writeCr0 (s : State) (v : Word) : State := { s with cr0 := v &&& cr0Defined }

/-- 42_float.md R234: which of FEQ, FLT, FGT and FUN a comparison sets. -/
def floatRelation (a b : Word) : Flag :=
  if isNaN a || isNaN b then .FUN
  else if fless a b then .FLT
  else if fless b a then .FGT
  else .FEQ

/-- 42_float.md R233. -/
def ofCond (a b r : Word) : Bool := isInf r && !isInf a && !isInf b

/-- 42_float.md R233. -/
def ufCond (a b r : Word) : Bool := isZero r && !isZero a && !isZero b

/-- The overflow and underflow bookkeeping of fadd, fmul and the general path of fdiv (42_float.md R233, R235, R237, R238). -/
def State.setRangeFlags (s : State) (a b r : Word) : State :=
  (s.setFlagIf (ofCond a b r) .OF).setFlagIf (ufCond a b r) .UF

/-- The flag of a decoder event (60_exceptions.md R353). -/
def HaltReason.flag : HaltReason → Flag
  | .fetchMisaligned => .AE
  | .fetchPageFault => .PF
  | .fetchAddrError => .AE
  | .illegal => .ILL

end Sys2Proof.Machine
end

