-- ==== Sys2Proof/Machine/Operands.lean ====
section
/-! DEFINITION. The operand forms: registers, pairs and quads (10_state.md R20-R22), immediates (30_encoding.md R102), effective
addresses (45_loadstore.md R321), bit-field operands (40_integer.md R158) and byte lanes (43_vector.md R262). -/

namespace Sys2Proof.Machine

open Sys2Proof

/-! ## Registers -/

/-- `x[i]`: any of the 32 registers, r0 among them (10_state.md R20). -/
def State.reg (s : State) (i : RegIdx) : Word := s.regs[i.toNat]'i.isLt

/-- `x[i] <- v`: no register is hardwired (10_state.md R20). -/
def State.setReg (s : State) (i : RegIdx) (v : Word) : State := { s with regs := s.regs.set i.toNat v i.isLt }

/-- The 64-bit value of the pair (d, d+1), high word first, d+1 taken mod 32 (10_state.md R21). -/
def State.pair (s : State) (d : RegIdx) : BitVec 64 := s.reg d ++ s.reg (d + 1)

/-- A pair written, high word first (10_state.md R21). -/
def State.setPair (s : State) (d : RegIdx) (hi lo : Word) : State := (s.setReg d hi).setReg (d + 1) lo

/-- The four lanes of a register quad. -/
structure Quad where
  lane0 : Word
  lane1 : Word
  lane2 : Word
  lane3 : Word
  deriving DecidableEq, Repr

/-- The quad named by `n`: lane k is `x[(n + k) mod 32]` (43_vector.md R261). -/
def State.quad (s : State) (n : RegIdx) : Quad := ⟨s.reg n, s.reg (n + 1), s.reg (n + 2), s.reg (n + 3)⟩

/-- All four lanes of the quad named by `n` written (43_vector.md R261). -/
def State.setQuad (s : State) (n : RegIdx) (q : Quad) : State :=
  (((s.setReg n q.lane0).setReg (n + 1) q.lane1).setReg (n + 2) q.lane2).setReg (n + 3) q.lane3

/-- A lane-wise operation on two quads. -/
def Quad.map2 (f : Word → Word → Word) (a b : Quad) : Quad :=
  ⟨f a.lane0 b.lane0, f a.lane1 b.lane1, f a.lane2 b.lane2, f a.lane3 b.lane3⟩

/-- Some lane satisfies `p`. -/
def Quad.any (p : Word → Bool) (q : Quad) : Bool := p q.lane0 || p q.lane1 || p q.lane2 || p q.lane3

/-! ## Immediates (30_encoding.md R102) -/

/-- simm16 and off16: `sext_16(w[15:0])`. -/
def simm16 (imm : BitVec 16) : Word := imm.signExtend 32
/-- uimm16: `zext_16(w[15:0])`. -/
def uimm16 (imm : BitVec 16) : Word := imm.setWidth 32
/-- uimm16 << 16: `w[15:0] ++ 0x0000`. -/
def upper16 (imm : BitVec 16) : Word := imm ++ (0 : BitVec 16)
/-- pos: bits 1:0 of an immediate or a register; the other bits are ignored. -/
def bytePos {n : Nat} (v : BitVec n) : Nat := (v.extractLsb' 0 2).toNat

/-! ## Extensions (00_scope.md R7) -/

/-- `sext_8` of the low byte of a word. -/
def sext8 (v : Word) : Word := (v.setWidth 8).signExtend 32
/-- `zext_8` of the low byte of a word. -/
def zext8 (v : Word) : Word := (v.setWidth 8).setWidth 32
/-- `sext_16` of the low half of a word. -/
def sext16 (v : Word) : Word := (v.setWidth 16).signExtend 32
/-- `zext_16` of the low half of a word. -/
def zext16 (v : Word) : Word := (v.setWidth 16).setWidth 32

/-! ## Addresses -/

/-- 45_loadstore.md R321: `ea <- trunc32(x[rs1] + sext_16(imm16))`. -/
def State.effectiveAddress (s : State) (rs1 : RegIdx) (imm : BitVec 16) : Word := s.reg rs1 + simm16 imm

/-- 41_control.md R200: the target of a taken branch, relative to the branch's own address. -/
def State.branchTarget (s : State) (off : BitVec 16) : Word := s.pc + simm16 off

/-! ## Bit fields (40_integer.md R158) -/

/-- `width <- b[4:0]`. -/
def fieldWidth (b : Word) : Nat := (b.extractLsb' 0 5).toNat
/-- `offset <- b[9:5]`. -/
def fieldOffset (b : Word) : Nat := (b.extractLsb' 5 5).toNat
/-- The mask of a field: width 0 is an empty field. -/
def fieldMask (b : Word) : Word := if fieldWidth b = 0 then 0 else BitVec.ofNat 32 (2 ^ fieldWidth b - 1)

/-! ## Byte lanes (43_vector.md R262) -/

/-- `lane(v, i) = v[8i+7 : 8i]`. -/
def lane (v : Word) (i : Nat) : Byte := v.extractLsb' (8 * i) 8
/-- `mklanes(l0, l1, l2, l3) = l3 ++ l2 ++ l1 ++ l0`. -/
def mkLanes (l0 l1 l2 l3 : Byte) : Word := l3 ++ l2 ++ l1 ++ l0
/-- A lane-wise operation on the bytes of two words. -/
def mapLanes (f : Byte → Byte → Byte) (a b : Word) : Word :=
  mkLanes (f (lane a 0) (lane b 0)) (f (lane a 1) (lane b 1)) (f (lane a 2) (lane b 2)) (f (lane a 3) (lane b 3))
/-- The byte a comparison of lanes gives: 0xFF or 0x00. -/
def laneMask (c : Bool) : Byte := if c then 0xFF else 0x00

end Sys2Proof.Machine
end

