-- ==== Sys2Proof/Machine/Ops.lean ====
section
/-! DEFINITION. The shared operations: the advance of pc, exceptions and the return from one, the privilege check, physical memory,
translation, and the accesses of loads, stores and fetch (20_memory.md, 30_encoding.md R115-R122, 60_exceptions.md). -/

namespace Sys2Proof.Machine

open Sys2Proof

/-! ## The end of an instruction (30_encoding.md R117) -/

/-- The sequential advance: `pc <- pc0 + 4` mod 2^32. -/
def State.advance (s : State) : State := { s with pc := s.pc + 4 }

/-- `redirect t`: `pc <- t` in place of the advance. -/
def State.redirect (s : State) (t : Word) : State := { s with pc := t }

/-- An instruction that does not redirect ends in the advance. -/
def finish (s : State) : Result := .next s.advance

/-- An instruction that writes one register and advances. -/
def writeBack (rd : RegIdx) (v : Word) (s : State) : Result := finish (s.setReg rd v)

/-! ## Exceptions -/

/-- Taking an exception (60_exceptions.md R350): its CR0 bit is set, the rest of the instruction is abandoned and the dispatcher
advances pc. There is no trap entry: nothing is saved, priv does not change and no vector is read. -/
def State.takeException (s : State) (f : Flag) : State := (s.setFlag f).advance

/-- The return from an exception (41_control.md R213, 60_exceptions.md R361): pc, nip and fip come from their shadows, and nothing
else changes. -/
def State.returnFromException (s : State) : State := { s with nip := s.snip, fip := s.sfip, pc := s.sxip }

/-- A decoder event (60_exceptions.md R353): its flag is set and the core halts; pc and all else stay. -/
def State.halt (s : State) (r : HaltReason) : State := { s.setFlag r.flag with run := .halted r }

/-- 30_encoding.md R122, 60_exceptions.md R362: in User mode a supervisor-only instruction sets PRV, does nothing else, and pc
advances; in Supervisor mode it has its effect. -/
def supervisorOnly (s : State) (effect : State) : Result :=
  match s.priv with
  | .user => .next (s.takeException .PRV)
  | .supervisor => .next effect

/-- The next open value (44_system.md R308, U1), and the state in which it has been drawn (log 3). -/
def State.drawFree (s : State) : Word × State := (Config.freeWord s.freeCount, { s with freeCount := s.freeCount + 1 })

/-! ## Memory as data (10_state.md R39; log 6) -/

/-- The byte at a physical address; what is not listed reads as 0. -/
def Memory.read : Memory → Nat → Byte
  | [], _ => 0
  | c :: m, a => if c.1 = a then c.2 else Memory.read m a

/-- A cell put before the first cell of a higher address. -/
def Memory.insertCell : Memory → Host.Cell → Memory
  | [], c => [c]
  | d :: m, c => if c.1 < d.1 then c :: d :: m else d :: Memory.insertCell m c

/-- One byte written; a zero byte is not listed. -/
def Memory.write (m : Memory) (a : Nat) (b : Byte) : Memory :=
  let rest := m.filter (fun c => c.1 != a)
  if b = 0 then rest else Memory.insertCell rest (a, b)

/-- The canonical form: addresses strictly rising, no entry equal to what an unlisted address reads as. -/
abbrev Memory.wf (m : Memory) : Prop := m.Pairwise (fun c d => c.1 < d.1) ∧ ∀ c ∈ m, c.2 ≠ 0

/-! ## Physical memory (20_memory.md R61-R63) -/

/-- The faults of the memory interface (00_scope.md R9). -/
inductive MemFault where
  | pageFault
  | writeProtect
  | addrError
  deriving DecidableEq, Repr

/-- The CR0 bit of a memory fault (00_scope.md R10). -/
def MemFault.flag : MemFault → Flag
  | .pageFault => .PF
  | .writeProtect => .WP
  | .addrError => .AE

/-- R62: `PhysRead8(pa)`. -/
def physRead8 (s : State) (pa : Word) : Except MemFault Byte :=
  if pa.toNat < s.memSize then .ok (s.mem.read pa.toNat) else .error .addrError

/-- R62: `PhysWrite8(pa, b)`. -/
def physWrite8 (s : State) (pa : Word) (b : Byte) : Except MemFault State :=
  if pa.toNat < s.memSize then .ok { s with mem := s.mem.write pa.toNat b } else .error .addrError

/-- R63: `PhysReadWord(pa)`, byte pa the most significant. -/
def physReadWord (s : State) (pa : Word) : Except MemFault Word := do
  let b0 ← physRead8 s pa
  let b1 ← physRead8 s (pa + 1)
  let b2 ← physRead8 s (pa + 2)
  let b3 ← physRead8 s (pa + 3)
  return b0 ++ b1 ++ b2 ++ b3

/-! ## Translation (20_memory.md R65-R68) -/

/-- The kind of an access (00_scope.md R9). -/
inductive Access where
  | read
  | write
  deriving DecidableEq, Repr

/-- R65: bit 0, V. -/
def pteValid (pte : Word) : Bool := pte.getLsbD 0
/-- R65: bit 1, W. -/
def pteWritable (pte : Word) : Bool := pte.getLsbD 1
/-- R65: bit 2, S. -/
def pteSupervisor (pte : Word) : Bool := pte.getLsbD 2
/-- R65: bits 31:12, PFN. Bits 11:3 are ignored. -/
def pteFrame (pte : Word) : BitVec 20 := pte.extractLsb' 12 20
/-- The virtual page number, va[31:12]. -/
def pageIndex (va : Word) : BitVec 20 := va.extractLsb' 12 20
/-- The offset in the page, va[11:0]. -/
def pageOffset (va : Word) : BitVec 12 := va.extractLsb' 0 12

/-- R66: `pte_addr <- trunc32(ptb + zext(va[31:12]) * 4)`. -/
def pteAddress (ptb va : Word) : Word := ptb + (pageIndex va).setWidth 32 * 4

/-- The checks R66, R67 make on a page-table entry, in their order, and the physical address. -/
def checkPte (pte : Word) (priv : Priv) (va : Word) (acc : Access) : Except MemFault Word :=
  if pteValid pte = false then .error .pageFault
  else if pteSupervisor pte = true ∧ priv = .user then .error .pageFault
  else if acc = .write ∧ pteWritable pte = false then .error .writeProtect
  else .ok (pteFrame pte ++ pageOffset va)

/-- R66: `Translate(va, acc)`. With the MMU off it is the identity (R68). -/
def translate (s : State) (va : Word) (acc : Access) : Except MemFault Word :=
  if s.mmuEn then
    match physReadWord s (pteAddress s.ptb va) with
    | .error e => .error e
    | .ok pte => checkPte pte s.priv va acc
  else .ok va

/-! ## Virtual accesses (20_memory.md R70, R71) -/

/-- One byte of R70: translated with Read access, then read. -/
def readByte (s : State) (va : Word) : Except MemFault Byte :=
  match translate s va .read with
  | .error e => .error e
  | .ok pa => physRead8 s pa

/-- One byte of R71: translated with Write access, then written. -/
def writeByte (s : State) (va : Word) (b : Byte) : Except MemFault State :=
  match translate s va .write with
  | .error e => .error e
  | .ok pa => physWrite8 s pa b

/-- The loop of R70: `n` more bytes from `va` up, after the bytes whose value is `v`. -/
def memReadLoop (s : State) : Nat → Word → Word → Except MemFault Word
  | 0, _, v => .ok v
  | n + 1, va, v =>
    match readByte s va with
    | .error e => .error e
    | .ok b => memReadLoop s n (va + 1) (v <<< 8 ||| b.setWidth 32)

/-- R70: `MemRead(va, n)` for n of 1, 2 or 4, the big-endian value of the bytes, zero-extended to a word. -/
def memRead (s : State) (va : Word) (n : Nat) : Except MemFault Word := memReadLoop s n va 0

/-- The low n bytes of a word, most significant first (20_memory.md R64, R71). -/
def bytesOf : Nat → Word → List Byte
  | 0, _ => []
  | n + 1, v => v.extractLsb' (8 * n) 8 :: bytesOf n v

/-- R71: `MemWrite` of the bytes at ascending addresses from `va`. It stops at the first byte that fails; the bytes before it stay
written. Each byte is translated in the state its predecessors left (R69). -/
def memWrite (s : State) (va : Word) : List Byte → State × Option MemFault
  | [] => (s, none)
  | b :: bs =>
    match writeByte s va b with
    | .error e => (s, some e)
    | .ok s' => memWrite s' (va + 1) bs

/-! ## Loads, stores and fetch -/

/-- A load of n bytes into one register: the register is written only when every byte has been read, and a fault sets its one flag
(45_loadstore.md R320). -/
def loadRegister (n : Nat) (extend : Word → Word) (rd : RegIdx) (ea : Word) (s : State) : Result :=
  match memRead s ea n with
  | .error e => .next (s.takeException e.flag)
  | .ok v => writeBack rd (extend v) s

/-- A store of bytes from `ea` up, ending in the advance or, at the first failing byte, in its fault (45_loadstore.md R332). -/
def storeBytes (ea : Word) (bytes : List Byte) (s : State) : Result :=
  match memWrite s ea bytes with
  | (s', none) => finish s'
  | (s', some e) => .next (s'.takeException e.flag)

/-- The decoder event of a fault of the fetch (30_encoding.md R115, R116). A Read access never gives WriteProtect (20_memory.md R67);
the case stands only because the function is total (log 13). -/
def fetchFault : MemFault → HaltReason
  | .pageFault => .fetchPageFault
  | .writeProtect => .fetchPageFault
  | .addrError => .fetchAddrError

/-- Instruction fetch (30_encoding.md R116): pc must be word-aligned, and the word is `MemRead(pc, 4)`. -/
def fetch (s : State) : Except HaltReason Word :=
  if s.pc.extractLsb' 0 2 ≠ 0 then .error .fetchMisaligned
  else
    match memRead s s.pc 4 with
    | .error e => .error (fetchFault e)
    | .ok w => .ok w

end Sys2Proof.Machine
end

