-- ==== Sys2Proof/Machine/Control.lean ====
section
/-! DEFINITION. The meanings of the control-flow, trap and control-register instructions (41_control.md). `s.pc` is the address of the
executing instruction (10_state.md R31). -/

namespace Sys2Proof.Machine

open Sys2Proof

/-! ## Conditional branches -/

/-- 41_control.md R200: a taken branch redirects to pc + off16, one that is not taken advances; CR0 is neither read nor written. -/
def branchWhen (taken : Bool) (off : BitVec 16) (s : State) : Result :=
  if taken then .next (s.redirect (s.branchTarget off)) else finish s

/-- 41_control.md R201. -/
def execBeq (rs1 rs2 : RegIdx) (off : BitVec 16) (s : State) : Result :=
  branchWhen (decide ((s.reg rs1).toInt = (s.reg rs2).toInt)) off s

/-- 41_control.md R202. -/
def execBne (rs1 rs2 : RegIdx) (off : BitVec 16) (s : State) : Result :=
  branchWhen (decide ((s.reg rs1).toInt ≠ (s.reg rs2).toInt)) off s

/-- 41_control.md R203. -/
def execBlt (rs1 rs2 : RegIdx) (off : BitVec 16) (s : State) : Result :=
  branchWhen (decide ((s.reg rs1).toInt < (s.reg rs2).toInt)) off s

/-- 41_control.md R204. -/
def execBge (rs1 rs2 : RegIdx) (off : BitVec 16) (s : State) : Result :=
  branchWhen (decide ((s.reg rs1).toInt ≥ (s.reg rs2).toInt)) off s

/-- 41_control.md R205. -/
def execBgt (rs1 rs2 : RegIdx) (off : BitVec 16) (s : State) : Result :=
  branchWhen (decide ((s.reg rs1).toInt > (s.reg rs2).toInt)) off s

/-- 41_control.md R206. -/
def execBle (rs1 rs2 : RegIdx) (off : BitVec 16) (s : State) : Result :=
  branchWhen (decide ((s.reg rs1).toInt ≤ (s.reg rs2).toInt)) off s

/-! ## Register jumps -/

/-- 41_control.md R207. The target is not checked; a misaligned one halts at the next fetch. -/
def execJmp (rs1 : RegIdx) (s : State) : Result := .next (s.redirect (s.reg rs1))

/-- 41_control.md R208: the target is read first, then the source register takes the link. -/
def execJsr (rs1 : RegIdx) (s : State) : Result := .next ((s.setReg rs1 (s.pc + 4)).redirect (s.reg rs1))

/-! ## Trap and bounds check -/

/-- 41_control.md R210: TRP and the vector number; there is no transfer of control, and pc advances. -/
def execTrap (vec : BitVec 9) (s : State) : Result := .next (({ s with tvec := vec } : State).takeException .TRP)

/-- 41_control.md R211: unsigned. -/
def execTbnd (rs1 rs2 : RegIdx) (s : State) : Result :=
  if (s.reg rs1).toNat > (s.reg rs2).toNat then .next (s.takeException .BND) else finish s

/-- 41_control.md R213: supervisor-only. -/
def execRte (s : State) : Result := supervisorOnly s s.returnFromException

/-! ## Control-register transfer -/

/-- 41_control.md R214: cr0 is CR0 and cr1 is tvec, zero-extended, at every privilege level. Another number is no instruction
(30_encoding.md R121): the decoder never gives it, and the core would halt as on any illegal word (log 11). -/
def execLdcr (rd : RegIdx) (crN : BitVec 5) (s : State) : Result :=
  if crN = 0 then writeBack rd s.cr0 s
  else if crN = 1 then writeBack rd (s.tvec.setWidth 32) s
  else .next (s.halt .illegal)

/-- 41_control.md R215: supervisor-only. CR0 keeps only its defined bits, tvec the low 9 bits. Another number is no instruction, and
decoding comes before the privilege check (30_encoding.md R121; log 11). -/
def execStcr (rs1 : RegIdx) (crN : BitVec 5) (s : State) : Result :=
  if crN = 0 then supervisorOnly s (s.writeCr0 (s.reg rs1)).advance
  else if crN = 1 then supervisorOnly s ({ s with tvec := (s.reg rs1).setWidth 9 } : State).advance
  else .next (s.halt .illegal)

end Sys2Proof.Machine
end

