-- ==== Sys2Proof/Machine/FloatingPoint.lean ====
section
/-! DEFINITION. The meanings of the floating-point instructions (42_float.md). Operands and results are binary32 patterns in the
general registers (10_state.md R43). -/

namespace Sys2Proof.Machine

open Sys2Proof

/-- 42_float.md R234: the FP-compare sub-field is rewritten; no other bit changes. -/
def execFcmp (rs1 rs2 : RegIdx) (s : State) : Result :=
  finish (s.setFloatCompare (floatRelation (s.reg rs1) (s.reg rs2)))

/-- 42_float.md R235: OF and UF by R233. -/
def execFadd (rd rs1 rs2 : RegIdx) (s : State) : Result :=
  let a := s.reg rs1
  let b := s.reg rs2
  let r := fadd32 a b
  writeBack rd r (s.setRangeFlags a b r)

/-- 42_float.md R236: NV when the result is NaN, and no overflow or underflow detection. -/
def execFsub (rd rs1 rs2 : RegIdx) (s : State) : Result :=
  let r := fsub32 (s.reg rs1) (s.reg rs2)
  writeBack rd r (s.setFlagIf (isNaN r) .NV)

/-- 42_float.md R237: OF and UF by R233. -/
def execFmul (rd rs1 rs2 : RegIdx) (s : State) : Result :=
  let a := s.reg rs1
  let b := s.reg rs2
  let r := fmul32 a b
  writeBack rd r (s.setRangeFlags a b r)

/-- 42_float.md R238: a zero divisor is checked first; over it, zero gives NaN with NV and DZ, and anything else an infinity with the
dividend's sign and DZ only. The general path sets OF and UF by R233. -/
def execFdiv (rd rs1 rs2 : RegIdx) (s : State) : Result :=
  let a := s.reg rs1
  let b := s.reg rs2
  if isZero b then
    if isZero a then writeBack rd canonicalNaN ((s.setFlag .NV).setFlag .DZ)
    else writeBack rd (infinity (signBit a)) (s.setFlag .DZ)
  else
    let r := fdiv32 a b
    writeBack rd r (s.setRangeFlags a b r)

/-- 42_float.md R239. -/
def execFlt (rd rs1 : RegIdx) (s : State) : Result := writeBack rd (i32ToF32 (s.reg rs1).toInt) s

/-- 42_float.md R240: NaN and infinity give 0 with NV, a value outside the signed range saturates with OF, and any other is rounded
to nearest, ties to even. -/
def execInt (rd rs1 : RegIdx) (s : State) : Result :=
  let a := s.reg rs1
  let v := exactValue a
  if isNaN a || isInf a then writeBack rd 0 (s.setFlag .NV)
  else if v ≥ 2 ^ 31 * (unitsPerOne : Int) then writeBack rd 0x7FFF_FFFF (s.setFlag .OF)
  else if v < -(2 ^ 31) * (unitsPerOne : Int) then writeBack rd 0x8000_0000 (s.setFlag .OF)
  else writeBack rd (BitVec.ofInt 32 (roundTiesEven a)) s

end Sys2Proof.Machine
end

