-- ==== Sys2Proof/Machine/Integer.lean ====
section
/-! DEFINITION. The meanings of the integer, logical, compare and bit-field instructions (40_integer.md). Every source register is read
in the state before the instruction (30_encoding.md R119). -/

namespace Sys2Proof.Machine

open Sys2Proof

/-! ## Arithmetic -/

/-- 40_integer.md R140. -/
def execAdd (rd rs1 rs2 : RegIdx) (s : State) : Result := writeBack rd (s.reg rs1 + s.reg rs2) s

/-- 40_integer.md R141. -/
def execSub (rd rs1 rs2 : RegIdx) (s : State) : Result := writeBack rd (s.reg rs1 - s.reg rs2) s

/-- 40_integer.md R142: the low 32 bits of the product. -/
def execMul (rd rs1 rs2 : RegIdx) (s : State) : Result := writeBack rd (s.reg rs1 * s.reg rs2) s

/-- The least signed word, MIN_INT. -/
def minInt : Word := 0x8000_0000

/-- 40_integer.md R143: signed division, toward zero; MIN_INT / -1 is MIN_INT; a zero divisor gives 0. -/
def signedQuotient (a b : Word) : Word :=
  if b = 0 then 0
  else if a = minInt ∧ b = 0xFFFF_FFFF then minInt
  else BitVec.ofInt 32 (a.toInt.tdiv b.toInt)

/-- 40_integer.md R145: signed remainder, with the sign of the dividend; MIN_INT rem -1 is 0; a zero divisor gives 0. -/
def signedRemainder (a b : Word) : Word :=
  if b = 0 then 0
  else if a = minInt ∧ b = 0xFFFF_FFFF then 0
  else BitVec.ofInt 32 (a.toInt.tmod b.toInt)

/-- 40_integer.md R144: unsigned division; a zero divisor gives 0. -/
def unsignedQuotient (a b : Word) : Word := if b = 0 then 0 else BitVec.ofNat 32 (a.toNat / b.toNat)

/-- 40_integer.md R146: unsigned remainder; a zero divisor gives 0. -/
def unsignedRemainder (a b : Word) : Word := if b = 0 then 0 else BitVec.ofNat 32 (a.toNat % b.toNat)

/-- The shape of the four 32-bit divides: DZ on a zero divisor, then the destination. -/
def divideInto (f : Word → Word → Word) (rd rs1 rs2 : RegIdx) (s : State) : Result :=
  writeBack rd (f (s.reg rs1) (s.reg rs2)) (s.setFlagIf (s.reg rs2 == 0) .DZ)

/-- 40_integer.md R143. -/
def execDiv (rd rs1 rs2 : RegIdx) (s : State) : Result := divideInto signedQuotient rd rs1 rs2 s

/-- 40_integer.md R144. -/
def execDivu (rd rs1 rs2 : RegIdx) (s : State) : Result := divideInto unsignedQuotient rd rs1 rs2 s

/-- 40_integer.md R145. -/
def execRem (rd rs1 rs2 : RegIdx) (s : State) : Result := divideInto signedRemainder rd rs1 rs2 s

/-- 40_integer.md R146. -/
def execRemu (rd rs1 rs2 : RegIdx) (s : State) : Result := divideInto unsignedRemainder rd rs1 rs2 s

/-- A 64-bit product written to a register pair, high word first (R147, R148). -/
def writeProduct (rd : RegIdx) (p : BitVec 64) (s : State) : Result :=
  finish (s.setPair rd (p.extractLsb' 32 32) (p.extractLsb' 0 32))

/-- 40_integer.md R147: the exact signed product. -/
def execMuls (rd rs1 rs2 : RegIdx) (s : State) : Result :=
  writeProduct rd (BitVec.ofInt 64 ((s.reg rs1).toInt * (s.reg rs2).toInt)) s

/-- 40_integer.md R148: the exact unsigned product. -/
def execMulu (rd rs1 rs2 : RegIdx) (s : State) : Result :=
  writeProduct rd (BitVec.ofNat 64 ((s.reg rs1).toNat * (s.reg rs2).toNat)) s

/-- 40_integer.md R149: quotient (its low 32 bits) to rd, remainder to rd+1; a zero divisor sets DZ and gives 0 in both. -/
def execDivud (rd rs1 rs2 : RegIdx) (s : State) : Result :=
  let n := (s.pair rs1).toNat
  let dv := (s.reg rs2).toNat
  if dv = 0 then finish ((s.setFlag .DZ).setPair rd 0 0)
  else finish (s.setPair rd (BitVec.ofNat 32 (n / dv)) (BitVec.ofNat 32 (n % dv)))

/-- 40_integer.md R150. -/
def execAddi (rd rs1 : RegIdx) (imm : BitVec 16) (s : State) : Result := writeBack rd (s.reg rs1 + simm16 imm) s

/-! ## Logical -/

/-- 40_integer.md R151. -/
def execAndi (rd rs1 : RegIdx) (imm : BitVec 16) (s : State) : Result := writeBack rd (s.reg rs1 &&& uimm16 imm) s

/-- 40_integer.md R152. -/
def execOri (rd rs1 : RegIdx) (imm : BitVec 16) (s : State) : Result := writeBack rd (s.reg rs1 ||| uimm16 imm) s

/-- 40_integer.md R153. -/
def execXori (rd rs1 : RegIdx) (imm : BitVec 16) (s : State) : Result := writeBack rd (s.reg rs1 ^^^ uimm16 imm) s

/-- 40_integer.md R154. -/
def execOru (rd rs1 : RegIdx) (imm : BitVec 16) (s : State) : Result := writeBack rd (s.reg rs1 ||| upper16 imm) s

/-- 40_integer.md R155. -/
def execAnd (rd rs1 rs2 : RegIdx) (s : State) : Result := writeBack rd (s.reg rs1 &&& s.reg rs2) s

/-- 40_integer.md R156. -/
def execOr (rd rs1 rs2 : RegIdx) (s : State) : Result := writeBack rd (s.reg rs1 ||| s.reg rs2) s

/-- 40_integer.md R157. -/
def execXor (rd rs1 rs2 : RegIdx) (s : State) : Result := writeBack rd (s.reg rs1 ^^^ s.reg rs2) s

/-! ## Compare -/

/-- 40_integer.md R160: signed. -/
def execCmp (rs1 rs2 : RegIdx) (s : State) : Result :=
  let a := (s.reg rs1).toInt
  let b := (s.reg rs2).toInt
  finish (s.setIntCompare (decide (a = b)) (decide (a < b)) (decide (a > b)))

/-- 40_integer.md R161: unsigned. -/
def execCmpu (rs1 rs2 : RegIdx) (s : State) : Result :=
  let a := (s.reg rs1).toNat
  let b := (s.reg rs2).toNat
  finish (s.setIntCompare (decide (a = b)) (decide (a < b)) (decide (a > b)))

/-! ## Bit field -/

/-- 40_integer.md R159. -/
def execExtu (rd rs1 rs2 : RegIdx) (s : State) : Result :=
  let b := s.reg rs2
  writeBack rd ((s.reg rs1 >>> fieldOffset b) &&& fieldMask b) s

/-- 40_integer.md R162: the old value of rd is replaced, not merged. -/
def execMak (rd rs1 rs2 : RegIdx) (s : State) : Result :=
  let b := s.reg rs2
  writeBack rd ((s.reg rs1 &&& fieldMask b) <<< fieldOffset b) s

/-- 40_integer.md R163: `n <- b[4:0]`; rotate right by n. -/
def rotateRight (a : Word) (n : Nat) : Word := if n = 0 then a else a >>> n ||| a <<< (32 - n)

/-- 40_integer.md R163. -/
def execRot (rd rs1 rs2 : RegIdx) (s : State) : Result :=
  writeBack rd (rotateRight (s.reg rs1) ((s.reg rs2).extractLsb' 0 5).toNat) s

/-- The least bit number of 0 to 31 at which `a` has the bit `b`, or 32 (40_integer.md R164, R165). -/
def findFirst (b : Bool) (a : Word) : Word :=
  BitVec.ofNat 32 (((List.range 32).find? (fun i => a.getLsbD i == b)).getD 32)

/-- 40_integer.md R164: from bit 0 upward. -/
def execFf1 (rd rs1 : RegIdx) (s : State) : Result := writeBack rd (findFirst true (s.reg rs1)) s

/-- 40_integer.md R165: from bit 0 upward. -/
def execFf0 (rd rs1 : RegIdx) (s : State) : Result := writeBack rd (findFirst false (s.reg rs1)) s

/-- 40_integer.md R166. -/
def execSextb (rd rs1 : RegIdx) (s : State) : Result := writeBack rd (sext8 (s.reg rs1)) s

/-- 40_integer.md R167. -/
def execZextb (rd rs1 : RegIdx) (s : State) : Result := writeBack rd (zext8 (s.reg rs1)) s

/-- 40_integer.md R168. -/
def execSexth (rd rs1 : RegIdx) (s : State) : Result := writeBack rd (sext16 (s.reg rs1)) s

/-- 40_integer.md R169. -/
def execZexth (rd rs1 : RegIdx) (s : State) : Result := writeBack rd (zext16 (s.reg rs1)) s

end Sys2Proof.Machine
end

