-- ==== Sys2Proof/Machine/LoadStore.lean ====
section
/-! DEFINITION. The meanings of the load and store instructions (45_loadstore.md). Each runs at every privilege level, is translated
under the current one, and ends at pc + 4 whether it succeeds or faults (R334). -/

namespace Sys2Proof.Machine

open Sys2Proof

/-! ## Loads -/

/-- 45_loadstore.md R322. -/
def execLdb (rd rs1 : RegIdx) (imm : BitVec 16) (s : State) : Result := loadRegister 1 sext8 rd (s.effectiveAddress rs1 imm) s

/-- 45_loadstore.md R323. -/
def execLdbu (rd rs1 : RegIdx) (imm : BitVec 16) (s : State) : Result := loadRegister 1 zext8 rd (s.effectiveAddress rs1 imm) s

/-- 45_loadstore.md R324. -/
def execLdh (rd rs1 : RegIdx) (imm : BitVec 16) (s : State) : Result := loadRegister 2 sext16 rd (s.effectiveAddress rs1 imm) s

/-- 45_loadstore.md R325. -/
def execLdhu (rd rs1 : RegIdx) (imm : BitVec 16) (s : State) : Result := loadRegister 2 zext16 rd (s.effectiveAddress rs1 imm) s

/-- 45_loadstore.md R326. -/
def execLdw (rd rs1 : RegIdx) (imm : BitVec 16) (s : State) : Result := loadRegister 4 id rd (s.effectiveAddress rs1 imm) s

/-- 45_loadstore.md R327: rd is written when the first word has been read, rd+1 when the second has; the address is that of the old
base. -/
def execLdd (rd rs1 : RegIdx) (imm : BitVec 16) (s : State) : Result :=
  let ea := s.effectiveAddress rs1 imm
  match memRead s ea 4 with
  | .error e => .next (s.takeException e.flag)
  | .ok hi => loadRegister 4 id (rd + 1) (ea + 4) (s.setReg rd hi)

/-! ## Stores -/

/-- 45_loadstore.md R328. -/
def execStb (rs rs1 : RegIdx) (imm : BitVec 16) (s : State) : Result :=
  storeBytes (s.effectiveAddress rs1 imm) (bytesOf 1 (s.reg rs)) s

/-- 45_loadstore.md R329. -/
def execSth (rs rs1 : RegIdx) (imm : BitVec 16) (s : State) : Result :=
  storeBytes (s.effectiveAddress rs1 imm) (bytesOf 2 (s.reg rs)) s

/-- 45_loadstore.md R330. -/
def execStw (rs rs1 : RegIdx) (imm : BitVec 16) (s : State) : Result :=
  storeBytes (s.effectiveAddress rs1 imm) (bytesOf 4 (s.reg rs)) s

/-- 45_loadstore.md R331: the high word at ea, then the low word at ea + 4; both are read before the first byte is written. -/
def execStd (rs rs1 : RegIdx) (imm : BitVec 16) (s : State) : Result :=
  let ea := s.effectiveAddress rs1 imm
  match memWrite s ea (bytesOf 4 (s.reg rs)) with
  | (s', some e) => .next (s'.takeException e.flag)
  | (s', none) => storeBytes (ea + 4) (bytesOf 4 (s.reg (rs + 1))) s'

end Sys2Proof.Machine
end

