-- ==== Sys2Proof/Machine/System.lean ====
section
/-! DEFINITION. The meanings of the cache-control, MMU-control and translate instructions (44_system.md). -/

namespace Sys2Proof.Machine

open Sys2Proof

/-! ## Cache control: no state changes, no translation is made (44_system.md R305) -/

/-- 44_system.md R300: supervisor-only; rs1 is read and ignored. -/
def execIcache (_rs1 : RegIdx) (s : State) : Result := supervisorOnly s s.advance

/-- 44_system.md R301: supervisor-only; rs1 is read and ignored. -/
def execDcache (_rs1 : RegIdx) (s : State) : Result := supervisorOnly s s.advance

/-- 44_system.md R302: supervisor-only; rs1 is read and ignored. -/
def execFlush (_rs1 : RegIdx) (s : State) : Result := supervisorOnly s s.advance

/-- 44_system.md R303: supervisor-only; rs1 is read and ignored. -/
def execInval (_rs1 : RegIdx) (s : State) : Result := supervisorOnly s s.advance

/-- 44_system.md R304: nothing, at every privilege level. -/
def execPrefetch (_rs1 : RegIdx) (s : State) : Result := finish s

/-! ## MMU control -/

/-- The page-table base is recorded 4 KiB-aligned (10_state.md R36, 44_system.md R306). -/
def alignedBase (v : Word) : Word := v &&& 0xFFFF_F000

/-- 44_system.md R306: supervisor-only. -/
def execLdptb (rs1 : RegIdx) (s : State) : Result :=
  supervisorOnly s ({ s with ptb := alignedBase (s.reg rs1), mmuEn := true } : State).advance

/-- 44_system.md R307: supervisor-only; ptb is unchanged. -/
def execTlbinv (s : State) : Result := supervisorOnly s ({ s with mmuEn := false } : State).advance

/-- 44_system.md R308: a Read translation under the current privilege. When it fails, rd takes an open value and the fault's flag is
set. -/
def execXlate (rd rs1 : RegIdx) (s : State) : Result :=
  match translate s (s.reg rs1) .read with
  | .ok pa => writeBack rd pa s
  | .error e => .next ((s.drawFree.2.setReg rd s.drawFree.1).takeException e.flag)

end Sys2Proof.Machine
end

