-- ==== Sys2Proof/Machine/Vectors.lean ====
section
/-! DEFINITION. The meanings of the vector instructions (43_vector.md): float lanes in register quads, byte lanes in one register. -/

namespace Sys2Proof.Machine

open Sys2Proof

/-! ## Float lanes -/

/-- The shape of vadd, vsub and vmul (43_vector.md R263): four lanes are computed from the old quads, NV if a result is NaN, then the
four are written. -/
def floatLanes (f : Word → Word → Word) (rd rs1 rs2 : RegIdx) (s : State) : Result :=
  let d := Quad.map2 f (s.quad rs1) (s.quad rs2)
  finish ((s.setFlagIf (d.any isNaN) .NV).setQuad rd d)

/-- 43_vector.md R263. -/
def execVadd (rd rs1 rs2 : RegIdx) (s : State) : Result := floatLanes fadd32 rd rs1 rs2 s

/-- 43_vector.md R264. -/
def execVsub (rd rs1 rs2 : RegIdx) (s : State) : Result := floatLanes fsub32 rd rs1 rs2 s

/-- 43_vector.md R265. -/
def execVmul (rd rs1 rs2 : RegIdx) (s : State) : Result := floatLanes fmul32 rd rs1 rs2 s

/-- One lane of vdiv: a zero divisor gives NaN (43_vector.md R266). -/
def divideLane (a b : Word) : Word := if isZero b then canonicalNaN else fdiv32 a b

/-- 43_vector.md R266: DZ if a lane's divisor is zero, and no other flag. -/
def execVdiv (rd rs1 rs2 : RegIdx) (s : State) : Result :=
  let b := s.quad rs2
  finish ((s.setFlagIf (b.any isZero) .DZ).setQuad rd (Quad.map2 divideLane (s.quad rs1) b))

/-- 43_vector.md R267: the bits are copied unchanged. -/
def execVmov (rd rs1 : RegIdx) (s : State) : Result := finish (s.setQuad rd (s.quad rs1))

/-! ## Byte lanes -/

/-- 43_vector.md R268. -/
def execVcmpeq (rd rs1 rs2 : RegIdx) (s : State) : Result :=
  writeBack rd (mapLanes (fun a b => laneMask (a == b)) (s.reg rs1) (s.reg rs2)) s

/-- 43_vector.md R269: unsigned. -/
def execVcmpgt (rd rs1 rs2 : RegIdx) (s : State) : Result :=
  writeBack rd (mapLanes (fun a b => laneMask (decide (a.toNat > b.toNat))) (s.reg rs1) (s.reg rs2)) s

/-- 43_vector.md R270: unsigned. -/
def execVcmplt (rd rs1 rs2 : RegIdx) (s : State) : Result :=
  writeBack rd (mapLanes (fun a b => laneMask (decide (a.toNat < b.toNat))) (s.reg rs1) (s.reg rs2)) s

/-- 43_vector.md R271: unsigned. -/
def execVmin (rd rs1 rs2 : RegIdx) (s : State) : Result :=
  writeBack rd (mapLanes (fun a b => if a.toNat ≤ b.toNat then a else b) (s.reg rs1) (s.reg rs2)) s

/-- 43_vector.md R272: unsigned. -/
def execVmax (rd rs1 rs2 : RegIdx) (s : State) : Result :=
  writeBack rd (mapLanes (fun a b => if a.toNat ≤ b.toNat then b else a) (s.reg rs1) (s.reg rs2)) s

/-- The source lane a shuffle's selector names for destination lane i: `b[2i+1:2i]` (43_vector.md R273). -/
def shuffleSource (b : Word) (i : Nat) : Nat := (b.extractLsb' (2 * i) 2).toNat

/-- 43_vector.md R273. -/
def execVshuf (rd rs1 rs2 : RegIdx) (s : State) : Result :=
  let a := s.reg rs1
  let b := s.reg rs2
  writeBack rd (mkLanes (lane a (shuffleSource b 0)) (lane a (shuffleSource b 1)) (lane a (shuffleSource b 2))
    (lane a (shuffleSource b 3))) s

/-- 43_vector.md R274. -/
def execVinth (rd rs1 rs2 : RegIdx) (s : State) : Result :=
  let a := s.reg rs1
  let b := s.reg rs2
  writeBack rd (mkLanes (lane a 2) (lane b 2) (lane a 3) (lane b 3)) s

/-- 43_vector.md R275. -/
def execVintl (rd rs1 rs2 : RegIdx) (s : State) : Result :=
  let a := s.reg rs1
  let b := s.reg rs2
  writeBack rd (mkLanes (lane a 0) (lane b 0) (lane a 1) (lane b 1)) s

/-- 43_vector.md R276. -/
def execVextb (rd rs1 rs2 : RegIdx) (s : State) : Result :=
  writeBack rd ((lane (s.reg rs1) (bytePos (s.reg rs2))).setWidth 32) s

/-- 43_vector.md R277. -/
def execVextbi (rd rs1 : RegIdx) (imm : BitVec 16) (s : State) : Result :=
  writeBack rd ((lane (s.reg rs1) (bytePos imm)).setWidth 32) s

/-- `(old & ~(0xFF << 8p)) | (a[7:0] << 8p)`: only lane p changes (43_vector.md R278). -/
def insertLane (old a : Word) (p : Nat) : Word := (old &&& ~~~((0xFF : Word) <<< (8 * p))) ||| (zext8 a <<< (8 * p))

/-- 43_vector.md R278. -/
def execVinsb (rd rs1 rs2 : RegIdx) (s : State) : Result :=
  writeBack rd (insertLane (s.reg rd) (s.reg rs1) (bytePos (s.reg rs2))) s

/-- 43_vector.md R279. -/
def execVinsbi (rd rs1 : RegIdx) (imm : BitVec 16) (s : State) : Result :=
  writeBack rd (insertLane (s.reg rd) (s.reg rs1) (bytePos imm)) s

/-- 43_vector.md R280: each halfword is truncated to its low byte. -/
def execVpack (rd rs1 rs2 : RegIdx) (s : State) : Result :=
  let a := s.reg rs1
  let b := s.reg rs2
  writeBack rd (mkLanes (a.extractLsb' 0 8) (a.extractLsb' 16 8) (b.extractLsb' 0 8) (b.extractLsb' 16 8)) s

/-- Two bytes zero-extended into the halfwords of a word, the first in the low half (43_vector.md R281). -/
def twoHalves (lo hi : Byte) : Word := lo.setWidth 32 ||| (hi.setWidth 32 : Word) <<< 16

/-- 43_vector.md R281. -/
def execVunpkl (rd rs1 : RegIdx) (s : State) : Result :=
  writeBack rd (twoHalves (lane (s.reg rs1) 0) (lane (s.reg rs1) 1)) s

/-- 43_vector.md R282. -/
def execVunpkh (rd rs1 : RegIdx) (s : State) : Result :=
  writeBack rd (twoHalves (lane (s.reg rs1) 2) (lane (s.reg rs1) 3)) s

end Sys2Proof.Machine
end

