-- ==== Sys2Proof/Machine/Dispatch.lean ====
section
/-! DEFINITION. `exec`: one arm per instruction, each one direct call of its meaning. -/

namespace Sys2Proof.Machine

open Sys2Proof

def exec (i : Instr) (s : State) : Host.Outcome State Fault Refusal :=
  match i with
  | .addi rd rs1 imm => Sys2Proof.Machine.execAddi rd rs1 imm s
  | .andi rd rs1 imm => Sys2Proof.Machine.execAndi rd rs1 imm s
  | .ori rd rs1 imm => Sys2Proof.Machine.execOri rd rs1 imm s
  | .xori rd rs1 imm => Sys2Proof.Machine.execXori rd rs1 imm s
  | .oru rd rs1 imm => Sys2Proof.Machine.execOru rd rs1 imm s
  | .ldb rd rs1 imm => Sys2Proof.Machine.execLdb rd rs1 imm s
  | .ldbu rd rs1 imm => Sys2Proof.Machine.execLdbu rd rs1 imm s
  | .ldh rd rs1 imm => Sys2Proof.Machine.execLdh rd rs1 imm s
  | .ldhu rd rs1 imm => Sys2Proof.Machine.execLdhu rd rs1 imm s
  | .ldw rd rs1 imm => Sys2Proof.Machine.execLdw rd rs1 imm s
  | .ldd rd rs1 imm => Sys2Proof.Machine.execLdd rd rs1 imm s
  | .stb rs rs1 imm => Sys2Proof.Machine.execStb rs rs1 imm s
  | .sth rs rs1 imm => Sys2Proof.Machine.execSth rs rs1 imm s
  | .stw rs rs1 imm => Sys2Proof.Machine.execStw rs rs1 imm s
  | .std rs rs1 imm => Sys2Proof.Machine.execStd rs rs1 imm s
  | .beq rs1 rs2 off => Sys2Proof.Machine.execBeq rs1 rs2 off s
  | .bne rs1 rs2 off => Sys2Proof.Machine.execBne rs1 rs2 off s
  | .blt rs1 rs2 off => Sys2Proof.Machine.execBlt rs1 rs2 off s
  | .bge rs1 rs2 off => Sys2Proof.Machine.execBge rs1 rs2 off s
  | .bgt rs1 rs2 off => Sys2Proof.Machine.execBgt rs1 rs2 off s
  | .ble rs1 rs2 off => Sys2Proof.Machine.execBle rs1 rs2 off s
  | .trap vec => Sys2Proof.Machine.execTrap vec s
  | .vextbi rd rs1 imm => Sys2Proof.Machine.execVextbi rd rs1 imm s
  | .vinsbi rd rs1 imm => Sys2Proof.Machine.execVinsbi rd rs1 imm s
  | .add rd rs1 rs2 => Sys2Proof.Machine.execAdd rd rs1 rs2 s
  | .sub rd rs1 rs2 => Sys2Proof.Machine.execSub rd rs1 rs2 s
  | .mul rd rs1 rs2 => Sys2Proof.Machine.execMul rd rs1 rs2 s
  | .div rd rs1 rs2 => Sys2Proof.Machine.execDiv rd rs1 rs2 s
  | .divu rd rs1 rs2 => Sys2Proof.Machine.execDivu rd rs1 rs2 s
  | .rem rd rs1 rs2 => Sys2Proof.Machine.execRem rd rs1 rs2 s
  | .remu rd rs1 rs2 => Sys2Proof.Machine.execRemu rd rs1 rs2 s
  | .muls rd rs1 rs2 => Sys2Proof.Machine.execMuls rd rs1 rs2 s
  | .mulu rd rs1 rs2 => Sys2Proof.Machine.execMulu rd rs1 rs2 s
  | .divud rd rs1 rs2 => Sys2Proof.Machine.execDivud rd rs1 rs2 s
  | .cmp rs1 rs2 => Sys2Proof.Machine.execCmp rs1 rs2 s
  | .cmpu rs1 rs2 => Sys2Proof.Machine.execCmpu rs1 rs2 s
  | .and rd rs1 rs2 => Sys2Proof.Machine.execAnd rd rs1 rs2 s
  | .or rd rs1 rs2 => Sys2Proof.Machine.execOr rd rs1 rs2 s
  | .xor rd rs1 rs2 => Sys2Proof.Machine.execXor rd rs1 rs2 s
  | .extu rd rs1 rs2 => Sys2Proof.Machine.execExtu rd rs1 rs2 s
  | .mak rd rs1 rs2 => Sys2Proof.Machine.execMak rd rs1 rs2 s
  | .rot rd rs1 rs2 => Sys2Proof.Machine.execRot rd rs1 rs2 s
  | .ff1 rd rs1 => Sys2Proof.Machine.execFf1 rd rs1 s
  | .ff0 rd rs1 => Sys2Proof.Machine.execFf0 rd rs1 s
  | .sextb rd rs1 => Sys2Proof.Machine.execSextb rd rs1 s
  | .zextb rd rs1 => Sys2Proof.Machine.execZextb rd rs1 s
  | .sexth rd rs1 => Sys2Proof.Machine.execSexth rd rs1 s
  | .zexth rd rs1 => Sys2Proof.Machine.execZexth rd rs1 s
  | .jmp rs1 => Sys2Proof.Machine.execJmp rs1 s
  | .jsr rs1 => Sys2Proof.Machine.execJsr rs1 s
  | .tbnd rs1 rs2 => Sys2Proof.Machine.execTbnd rs1 rs2 s
  | .rte => Sys2Proof.Machine.execRte s
  | .ldcr rd crN => Sys2Proof.Machine.execLdcr rd crN s
  | .stcr rs1 crN => Sys2Proof.Machine.execStcr rs1 crN s
  | .fadd rd rs1 rs2 => Sys2Proof.Machine.execFadd rd rs1 rs2 s
  | .fsub rd rs1 rs2 => Sys2Proof.Machine.execFsub rd rs1 rs2 s
  | .fmul rd rs1 rs2 => Sys2Proof.Machine.execFmul rd rs1 rs2 s
  | .fdiv rd rs1 rs2 => Sys2Proof.Machine.execFdiv rd rs1 rs2 s
  | .fcmp rs1 rs2 => Sys2Proof.Machine.execFcmp rs1 rs2 s
  | .flt rd rs1 => Sys2Proof.Machine.execFlt rd rs1 s
  | .int rd rs1 => Sys2Proof.Machine.execInt rd rs1 s
  | .vadd rd rs1 rs2 => Sys2Proof.Machine.execVadd rd rs1 rs2 s
  | .vsub rd rs1 rs2 => Sys2Proof.Machine.execVsub rd rs1 rs2 s
  | .vmul rd rs1 rs2 => Sys2Proof.Machine.execVmul rd rs1 rs2 s
  | .vdiv rd rs1 rs2 => Sys2Proof.Machine.execVdiv rd rs1 rs2 s
  | .vmov rd rs1 => Sys2Proof.Machine.execVmov rd rs1 s
  | .vcmpeq rd rs1 rs2 => Sys2Proof.Machine.execVcmpeq rd rs1 rs2 s
  | .vcmpgt rd rs1 rs2 => Sys2Proof.Machine.execVcmpgt rd rs1 rs2 s
  | .vcmplt rd rs1 rs2 => Sys2Proof.Machine.execVcmplt rd rs1 rs2 s
  | .vmin rd rs1 rs2 => Sys2Proof.Machine.execVmin rd rs1 rs2 s
  | .vmax rd rs1 rs2 => Sys2Proof.Machine.execVmax rd rs1 rs2 s
  | .vshuf rd rs1 rs2 => Sys2Proof.Machine.execVshuf rd rs1 rs2 s
  | .vinth rd rs1 rs2 => Sys2Proof.Machine.execVinth rd rs1 rs2 s
  | .vintl rd rs1 rs2 => Sys2Proof.Machine.execVintl rd rs1 rs2 s
  | .vextb rd rs1 rs2 => Sys2Proof.Machine.execVextb rd rs1 rs2 s
  | .vinsb rd rs1 rs2 => Sys2Proof.Machine.execVinsb rd rs1 rs2 s
  | .vpack rd rs1 rs2 => Sys2Proof.Machine.execVpack rd rs1 rs2 s
  | .vunpkl rd rs1 => Sys2Proof.Machine.execVunpkl rd rs1 s
  | .vunpkh rd rs1 => Sys2Proof.Machine.execVunpkh rd rs1 s
  | .icache rs1 => Sys2Proof.Machine.execIcache rs1 s
  | .dcache rs1 => Sys2Proof.Machine.execDcache rs1 s
  | .flush rs1 => Sys2Proof.Machine.execFlush rs1 s
  | .inval rs1 => Sys2Proof.Machine.execInval rs1 s
  | .prefetch rs1 => Sys2Proof.Machine.execPrefetch rs1 s
  | .ldptb rs1 => Sys2Proof.Machine.execLdptb rs1 s
  | .tlbinv => Sys2Proof.Machine.execTlbinv s
  | .xlate rd rs1 => Sys2Proof.Machine.execXlate rd rs1 s

end Sys2Proof.Machine
end

