-- ==== Sys2Proof/Machine/Cycle.lean ====
section
/-! DEFINITION. The dispatch cycle (30_encoding.md R115) and the placing of a word where the next fetch reads it. -/

namespace Sys2Proof.Machine

open Sys2Proof

/-- One step of the core in the order of 30_encoding.md R115 and 60_exceptions.md R354: a halted core has no step (R123); a fetch
that fails and a word that is no instruction halt the core (R116, R120); otherwise the decoded instruction runs. The privilege check
and the advance of pc are part of the meaning `exec` gives the instruction (log 12). -/
def cycle (s : State) : Result :=
  match s.run with
  | .halted r => .fault (.halted r)
  | .running =>
    match fetch s with
    | .error r => .next (s.halt r)
    | .ok w =>
      match decode w with
      | .error _ => .next (s.halt .illegal)
      | .ok i => exec i s

/-- Bytes put into physical memory where a Read access at `va`, `va + 1`, … reads them, by the translation of the state `t`; a byte
whose address does not translate is not put anywhere. -/
def placeBytes (t : State) : Word → List Byte → State → State
  | _, [], s => s
  | va, b :: bs, s =>
    match translate t va .read with
    | .error _ => placeBytes t (va + 1) bs s
    | .ok pa => placeBytes t (va + 1) bs { s with mem := s.mem.write pa.toNat b }

/-- The bits `w` of an instruction of `nbits` bits, the bits above zero, stored big-endian where the next fetch reads, and the core
set running. It stands for the host's load (60_exceptions.md R375; log 8). -/
def placeWord (s : State) (nbits w : Nat) : State :=
  { placeBytes s s.pc (bytesOf 4 (BitVec.ofNat 32 (w % 2 ^ nbits))) s with run := .running }

end Sys2Proof.Machine
end

