-- ==== Sys2Proof/Machine/Step.lean ====
section
/-! DEFINITION. The step of the machine, and the word the host places for it. -/

namespace Sys2Proof.Machine

/-- One step of the core (30_encoding.md R115). -/
def step (s : State) : Host.Outcome State Fault Refusal := cycle s

/-- `s` with an instruction stored where `step` fetches next. -/
def State.withFetchWord (s : State) (nbits w : Nat) : State := placeWord s nbits w

end Sys2Proof.Machine
end

