-- ==== Sys2Proof/Machine/HostPort.lean ====
section
/-! DEFINITION. The host's interface (60_exceptions.md R375): what the host may do between steps. No step of the core reads anything
from here. -/

namespace Sys2Proof.Machine

open Sys2Proof

/-- The interactions of the table of 60_exceptions.md R375, one constructor each. Reading state and stopping change nothing and need
none. -/
inductive HostAction where
  /-- create or reset, choosing MEM_SIZE (70_reset_and_hazards.md R390) -/
  | reset (memSize : Nat)
  /-- write a physical byte, untranslated, with no flag effect -/
  | load (pa : Word) (b : Byte)
  | setReg (i : RegIdx) (v : Word)
  | setPc (v : Word)
  | setNip (v : Word)
  | setFip (v : Word)
  | setSxip (v : Word)
  | setSnip (v : Word)
  | setSfip (v : Word)
  | setCr0 (v : Word)
  | setTvec (v : BitVec 9)
  | setPtb (v : Word)
  | setMmuEn (b : Bool)
  | setPriv (p : Priv)
  | setRun (r : RunState)
  /-- dispatch one step -/
  | step
  deriving DecidableEq, Repr

/-- The effect of a host action. A byte at or beyond MEM_SIZE is no physical byte, and the interaction is refused (I10). The bits of
CR0 and of ptb that always read as 0 stay 0 (10_state.md R29, R36; log 9). -/
def HostAction.apply : HostAction → State → Result
  | .reset memSize, _ => .next (State.resetWith memSize)
  | .load pa b, s =>
    if pa.toNat < s.memSize then .next { s with mem := s.mem.write pa.toNat b } else .refused .noSuchByte
  | .setReg i v, s => .next (s.setReg i v)
  | .setPc v, s => .next { s with pc := v }
  | .setNip v, s => .next { s with nip := v }
  | .setFip v, s => .next { s with fip := v }
  | .setSxip v, s => .next { s with sxip := v }
  | .setSnip v, s => .next { s with snip := v }
  | .setSfip v, s => .next { s with sfip := v }
  | .setCr0 v, s => .next (s.writeCr0 v)
  | .setTvec v, s => .next { s with tvec := v }
  | .setPtb v, s => .next { s with ptb := alignedBase v }
  | .setMmuEn b, s => .next { s with mmuEn := b }
  | .setPriv p, s => .next { s with priv := p }
  | .setRun r, s => .next { s with run := r }
  | .step, s => Sys2Proof.Machine.step s

/-- What the host reads of memory: any physical byte, untranslated (R375). -/
def State.hostByte (s : State) (pa : Word) : Option Byte :=
  if pa.toNat < s.memSize then some (s.mem.read pa.toNat) else none

end Sys2Proof.Machine
end

