-- ==== Sys2Proof/Safety.lean ====
section
/-! DEFINITION. What counts as a legal state, as a run, as its end and as a run without fault (60_exceptions.md R376). -/

namespace Sys2Proof.Machine

open Sys2Proof

/-- The invariant of the machine: memory is in canonical form and lies below MEM_SIZE (10_state.md R39), the reserved bits of CR0 are
0 (R29), and the page-table base is 4 KiB-aligned (R36). -/
structure State.Inv (s : State) : Prop where
  memory_canonical : s.mem.wf
  memory_in_range : ∀ c ∈ s.mem, c.1 < s.memSize
  cr0_reserved_zero : s.cr0 &&& ~~~cr0Defined = 0
  ptb_aligned : s.ptb.extractLsb' 0 12 = 0

/-- How a run ends (60_exceptions.md R376). -/
inductive RunEnd where
  /-- Running, with pc at HALT_PC -/
  | normal
  /-- Halted: a fault end, never a normal one -/
  | halt (reason : HaltReason)
  deriving DecidableEq, Repr

/-- R376: whether a run ends at this state. The check comes before the fetch, and with no HALT_PC there is no normal end. -/
def runEnd (haltPc : Option Word) (s : State) : Option RunEnd :=
  match s.run with
  | .halted r => some (.halt r)
  | .running => if haltPc = some s.pc then some .normal else none

/-- R376: the run of at most `n` steps, which goes no further than its end. -/
def runUntil (haltPc : Option Word) : Nat → State → Result
  | 0, s => .next s
  | n + 1, s =>
    match runEnd haltPc s with
    | some _ => .next s
    | none =>
      match step s with
      | .next t => runUntil haltPc n t
      | .fault f => .fault f
      | .refused r => .refused r

/-- The states a run from `s` passes through. -/
inductive Reaches : State → State → Prop where
  | refl (s : State) : Reaches s s
  | tail {s t u : State} : Reaches s t → step t = .next u → Reaches s u

/-- The states a session passes through: steps and other actions of the host, from reset (60_exceptions.md R375). -/
inductive HostReaches : State → Prop where
  | reset (memSize : Nat) : HostReaches (State.resetWith memSize)
  | act {s t : State} (a : HostAction) : HostReaches s → a.apply s = .next t → HostReaches t

/-- R376: the usual premise "no fault": none of BND, TRP, PF, WP, PRV, AE and ILL is set, and the core runs. -/
def State.noFault (s : State) : Bool := s.cr0.extractLsb' 16 7 == 0 && s.run == .running

end Sys2Proof.Machine
end

