-- ==== Sys2Proof/Certificates/Slice0/Obligations.lean ====
section
/-! DEFINITION. The statements for the provers, about the decoder, the instructions, the step and the invariant of the machine. -/

namespace Sys2Proof.Claims

open Sys2Proof Sys2Proof.Machine

/-! ## Words, written out from 30_encoding.md R101 -/

/-- Format R: MAJOR, D, S1, FUNC, S2. -/
def wordR (major : BitVec 6) (d s1 : BitVec 5) (func : BitVec 11) (s2 : BitVec 5) : Word := major ++ d ++ s1 ++ func ++ s2

/-- Formats I, S and B: MAJOR, two register fields, 16 bits. -/
def wordI (major : BitVec 6) (d s1 : BitVec 5) (imm : BitVec 16) : Word := major ++ d ++ s1 ++ imm

/-- Format T: MAJOR, seventeen zeros, VEC9. -/
def wordT (major : BitVec 6) (vec : BitVec 9) : Word := major ++ (0 : BitVec 17) ++ vec

/-! ## Frames -/

/-- Every byte of memory reads as before. -/
def SameMemory (s t : State) : Prop := ∀ a, t.mem.read a = s.mem.read a

/-- The state of the spec apart from the general registers, pc, CR0 and memory is as before. -/
structure SameSystem (s t : State) : Prop where
  nip : t.nip = s.nip
  fip : t.fip = s.fip
  sxip : t.sxip = s.sxip
  snip : t.snip = s.snip
  sfip : t.sfip = s.sfip
  tvec : t.tvec = s.tvec
  ptb : t.ptb = s.ptb
  mmuEn : t.mmuEn = s.mmuEn
  priv : t.priv = s.priv
  run : t.run = s.run
  memSize : t.memSize = s.memSize

/-- Only the registers `rds` may differ; CR0 is `cr0` and pc is `pc` after; memory and the rest are as before. -/
structure Frame (s t : State) (rds : List RegIdx) (cr0 pc : Word) : Prop where
  regs : ∀ i, i ∉ rds → t.reg i = s.reg i
  cr0 : t.cr0 = cr0
  pc : t.pc = pc
  memory : SameMemory s t
  system : SameSystem s t

/-- The word `w` is the instruction `i`, and `i` runs from `s` to a next state of which `post` holds. -/
def Runs (w : Word) (i : Instr) (s : State) (post : State → Prop) : Prop :=
  decode w = .ok i ∧ ∃ t, exec i s = .next t ∧ post t

/-- The instruction writes rd alone, with the value `v`, sets CR0 to `cr0` and advances. -/
def WritesRd (s : State) (rd : RegIdx) (v cr0 : Word) (t : State) : Prop :=
  t.reg rd = v ∧ Frame s t [rd] cr0 (s.pc + 4)

/-- As `WritesRd`, with the value described by a predicate. -/
def WritesRdSuch (s : State) (rd : RegIdx) (value : Word → Prop) (cr0 : Word) (t : State) : Prop :=
  value (t.reg rd) ∧ Frame s t [rd] cr0 (s.pc + 4)

/-- CR0 with DZ set when the divisor is zero. -/
def withDz (cr0 divisor : Word) : Word := if divisor = 0 then cr0 ||| 0x0000_0100 else cr0

/-- Byte i of a word, lane i of 43_vector.md R262. -/
def byteAt (v : Word) (i : Nat) : Nat := v.toNat / 256 ^ i % 256

/-- The CR0 bit of a memory fault: PF 18, WP 19, AE 21 (10_state.md R24). -/
def faultBit : MemFault → Word
  | .pageFault => 0x0004_0000
  | .writeProtect => 0x0008_0000
  | .addrError => 0x0020_0000

/-- A supervisor-only instruction (60_exceptions.md R362). -/
def Gated (i : Instr) : Prop :=
  i = .rte ∨ i = .tlbinv ∨ (∃ r, i = .icache r) ∨ (∃ r, i = .dcache r) ∨ (∃ r, i = .flush r) ∨ (∃ r, i = .inval r) ∨
    (∃ r, i = .ldptb r) ∨ (∃ r c, i = .stcr r c)

/-! ## Binary32 -/

/-- Neither NaN nor infinite. -/
def IsFinite (w : Word) : Prop := isNaN w = false ∧ isInf w = false

/-- The IEEE order on patterns that are not NaN, the infinities apart. -/
def IeeeLess (a b : Word) : Prop :=
  (isInf a = false ∧ isInf b = false ∧ exactValue a < exactValue b) ∨
  (isInf a = true ∧ signBit a = true ∧ ¬ (isInf b = true ∧ signBit b = true)) ∨
  (isInf b = true ∧ signBit b = false ∧ ¬ (isInf a = true ∧ signBit a = false))

/-- No finite value is nearer to `num / den` units of 2^-149 than that of `r`, and where another is as near, `r` is the even one. -/
def NearestEven (num den : Int) (r : Word) : Prop :=
  IsFinite r ∧ ∀ c, IsFinite c →
    (exactValue r * den - num).natAbs ≤ (exactValue c * den - num).natAbs ∧
    ((exactValue r * den - num).natAbs = (exactValue c * den - num).natAbs → exactValue c ≠ exactValue r → r.getLsbD 0 = false)

/-- `r` is `num / den` units of 2^-149 rounded to nearest, ties to even: infinite exactly from halfway between the largest finite
value and 2^128 on, nearest otherwise, and of the sign of the exact value where that is not zero. -/
def RoundsTo (num den : Int) (r : Word) : Prop :=
  isNaN r = false ∧
  (isInf r = true ↔ (2 ^ 25 - 1) * 2 ^ 252 * den.natAbs ≤ num.natAbs) ∧
  (isInf r = false → NearestEven num den r) ∧
  (num ≠ 0 → (signBit r = true ↔ num * den < 0))

/-! ## Memory -/

/-- The n bytes of an access from `ea` that a Read access reads, in ascending order. -/
def BytesRead (s : State) (ea : Word) (n : Nat) (b : Nat → Byte) : Prop :=
  ∀ k < n, readByte s (ea + BitVec.ofNat 32 k) = .ok (b k)

/-- The states a store's bytes lead through: each byte is written in the state its predecessors left. -/
def BytesWritten (s : State) (ea : Word) (m : Nat) (b : Nat → Byte) (chain : Nat → State) : Prop :=
  chain 0 = s ∧ ∀ k < m, writeByte (chain k) (ea + BitVec.ofNat 32 k) (b k) = .ok (chain (k + 1))

/-- Byte k of the n low bytes of a value, the most significant first. -/
def bigEndianByte {w : Nat} (v : BitVec w) (n k : Nat) : Byte := BitVec.ofNat 8 (v.toNat / 256 ^ (n - 1 - k))

/-- The MMU is off and the n bytes from `ea` are bytes of memory. -/
def InMemory (s : State) (ea : Word) (n : Nat) : Prop :=
  s.mmuEn = false ∧ ∀ k < n, (ea + BitVec.ofNat 32 k).toNat < s.memSize

/-- The MMU is on, the n bytes from `ea` lie on valid pages that this level may write, they are translated to bytes of memory, and none
of these is a byte of a page-table entry that translates one of them. -/
def Mapped (s : State) (ea : Word) (n : Nat) : Prop :=
  s.mmuEn = true ∧ ∃ pa : Nat → Word,
    (∀ k < n, translate s (ea + BitVec.ofNat 32 k) .write = .ok (pa k) ∧ (pa k).toNat < s.memSize) ∧
    ∀ j < n, ∀ k < n, ∀ m < 4, pa j ≠ pteAddress s.ptb (ea + BitVec.ofNat 32 k) + BitVec.ofNat 32 m

/-- The domain of the round trip of 45_loadstore.md R333. -/
def Accessible (s : State) (ea : Word) (n : Nat) : Prop := InMemory s ea n ∨ Mapped s ea n

/-- What a store `i` of the n bytes `b` at `ea` does: all the bytes, or the bytes before the first that fails and that byte's flag. -/
def StoresBytes (i : Instr) (s : State) (ea : Word) (n : Nat) (b : Nat → Byte) : Prop :=
  ∀ m ≤ n, ∀ chain, BytesWritten s ea m b chain →
    (m = n → exec i s = .next { chain n with pc := s.pc + 4 }) ∧
    (∀ e, m < n → writeByte (chain m) (ea + BitVec.ofNat 32 m) (b m) = .error e →
      exec i s = .next { chain m with cr0 := s.cr0 ||| faultBit e, pc := s.pc + 4 })

/-- A store of n bytes at `ea` in memory that is not translated: those bytes change, and nothing else but pc. -/
def StoresAt (i : Instr) (s : State) (ea : Word) (n : Nat) (b : Nat → Byte) : Prop :=
  InMemory s ea n →
    ∃ t, exec i s = .next t ∧ (∀ k < n, t.mem.read (ea + BitVec.ofNat 32 k).toNat = b k) ∧
      (∀ a, (∀ k < n, a ≠ (ea + BitVec.ofNat 32 k).toNat) → t.mem.read a = s.mem.read a) ∧
      (∀ r, t.reg r = s.reg r) ∧ t.cr0 = s.cr0 ∧ t.pc = s.pc + 4 ∧ SameSystem s t

/-- What a load `i` of n bytes at `ea` into rd does: the value of the bytes, or no register and the flag of the first byte that fails. -/
def LoadsBytes (w : Word) (i : Instr) (s : State) (rd : RegIdx) (ea : Word) (n : Nat) (value : (Nat → Byte) → Word) : Prop :=
  (∀ b, BytesRead s ea n b → Runs w i s (WritesRd s rd (value b) s.cr0)) ∧
  (∀ m < n, ∀ b e, BytesRead s ea m b → readByte s (ea + BitVec.ofNat 32 m) = .error e →
    e ≠ .writeProtect ∧ Runs w i s (fun t => Frame s t [] (s.cr0 ||| faultBit e) (s.pc + 4)))

end Sys2Proof.Claims

open Sys2Proof Sys2Proof.Machine Sys2Proof.Claims

/-! ## Encoding -/

/-- The decoder reads back every well-formed instruction from its encoding (30_encoding.md R101-R109, R112). -/
def Obligations.DecodeOfEncode : Prop := ∀ i : Instr, i.wellFormed = true → decode (encode i) = .ok i

/-- One word has one meaning (30_encoding.md R110, R112): a word that decodes is the encoding of what it decodes to. -/
def Obligations.EncodeOfDecode : Prop := ∀ (w : Word) (i : Instr), decode w = .ok i → i.wellFormed = true ∧ encode i = w

/-- 30_encoding.md R111: the illegal words are those that fit no row of the opcode table. -/
def Obligations.IllegalExactlyWhenNoRowFits : Prop :=
  ∀ w : Word, (∃ e, decode w = .error e) ↔ ∀ r ∈ opcodeRows, w &&& r.mask ≠ r.pattern

/-- 30_encoding.md R109, R112: no word matches two rows. -/
def Obligations.NoWordFitsTwoRows : Prop :=
  ∀ (w : Word) (r q : OpcodeRow), r ∈ opcodeRows → q ∈ opcodeRows → w &&& r.mask = r.pattern → w &&& q.mask = q.pattern → r = q

/-- The encoding examples of 30_encoding.md R114 and one word for each further family of 95_test_vectors.md section 2.1. -/
def Obligations.ExampleWordsDecode : Prop :=
  decode 0xC061_0002 = .ok (.add 3 1 2) ∧ decode 0x0420_FFFF = .ok (.addi 1 0 0xFFFF) ∧
  decode 0x6022_FFF8 = .ok (.beq 1 2 0xFFF8) ∧ decode 0x4882_0008 = .ok (.stw 4 2 8) ∧
  decode 0x8000_01FF = .ok (.trap 511) ∧ decode 0xC4A0_0081 = .ok (.ldcr 5 1) ∧
  decode 0xC407_00A0 = .ok (.stcr 7 0) ∧ decode 0xC400_0060 = .ok .rte ∧
  decode 0xC8C3_00C0 = .ok (.int 6 3) ∧ decode 0xCC61_01A2 = .ok (.vshuf 3 1 2) ∧
  decode 0xD0A3_0140 = .ok (.xlate 5 3) ∧ decode 0x3589_0090 = .ok (.ldd 12 9 0x90)

/-! ## The step -/

/-- 30_encoding.md R115: when the word at pc is an instruction, the step is that instruction, and it adds nothing. -/
def Obligations.StepRunsDecodedInstruction : Prop :=
  ∀ (s : State) (w : Word) (i : Instr), s.run = .running → s.pc.extractLsb' 0 2 = 0 → memRead s s.pc 4 = .ok w →
    decode w = .ok i → step s = exec i s

/-- 30_encoding.md R100, R115, R116, 20_memory.md R64, R70: the four bytes a Read access finds at pc, big-endian, each translated on its
own, are the instruction the step runs. With the MMU off (R68) they are the four bytes of memory at pc. -/
def Obligations.StepRunsBytesAtPc : Prop :=
  (∀ (s : State) (i : Instr) (b : Nat → Byte), s.run = .running → s.pc.toNat % 4 = 0 → BytesRead s s.pc 4 b →
    decode (b 0 ++ b 1 ++ b 2 ++ b 3) = .ok i → step s = exec i s) ∧
  (∀ (s : State) (i : Instr) (rest : List Byte), s.run = .running → s.mmuEn = false → s.pc.toNat % 4 = 0 →
    s.pc.toNat + 3 < s.memSize →
    decodeBytes ([0, 1, 2, 3].map (fun k => s.mem.read (s.pc.toNat + k)) ++ rest) = .ok (i, rest) → step s = exec i s)

/-- The word the host places is the instruction the next step runs (the host's load, 60_exceptions.md R375; log 8). -/
def Obligations.PlacedWordRunsNext : Prop :=
  ∀ (s : State) (w : Word) (i : Instr), s.mmuEn = false → s.pc.toNat % 4 = 0 → s.pc.toNat + 3 < s.memSize → decode w = .ok i →
    step (s.withFetchWord 32 w.toNat) = exec i (s.withFetchWord 32 w.toNat)

/-- 30_encoding.md R123: a halted core has no step (the model answers its one fault, log 1), and of the host's actions only reset and
a write of run leave the halt. -/
def Obligations.HaltedCoreHasNoStep : Prop :=
  ∀ (s : State) (r : HaltReason), s.run = .halted r →
    step s = .fault (.halted r) ∧
    HostAction.apply (.setRun .running) s = .next { s with run := .running } ∧
    (∀ (n : Nat) (t : State), HostAction.apply (.reset n) s = .next t → t.run = .running) ∧
    (∀ (a : HostAction) (t : State), a.apply s = .next t → (∀ n, a ≠ .reset n) → (∀ q, a ≠ .setRun q) → t.run = .halted r)

/-- 60_exceptions.md R353, R354, 30_encoding.md R115, R116, R120: the four decoder events set AE, PF, AE and ILL, halt the core and
leave pc and all other state unchanged. A fetch fails with the fault of its first byte that cannot be read; the word it finds is that of
the four bytes, big-endian. That the halting step is itself a next state is log 2. -/
def Obligations.DecoderEventsHalt : Prop :=
  ∀ s : State, s.run = .running →
    let halts := fun (flag : Word) (reason : HaltReason) => step s = .next { s with cr0 := s.cr0 ||| flag, run := .halted reason }
    (s.pc.extractLsb' 0 2 ≠ 0 → halts 0x0020_0000 .fetchMisaligned) ∧
    (s.pc.extractLsb' 0 2 = 0 →
      (memRead s s.pc 4 = .error .pageFault → halts 0x0004_0000 .fetchPageFault) ∧
      (memRead s s.pc 4 = .error .addrError → halts 0x0020_0000 .fetchAddrError) ∧
      (∀ w e, memRead s s.pc 4 = .ok w → decode w = .error e → halts 0x0040_0000 .illegal) ∧
      (∀ m < 4, ∀ b, BytesRead s s.pc m b →
        (readByte s (s.pc + BitVec.ofNat 32 m) = .error .pageFault → halts 0x0004_0000 .fetchPageFault) ∧
        (readByte s (s.pc + BitVec.ofNat 32 m) = .error .addrError → halts 0x0020_0000 .fetchAddrError)) ∧
      (∀ b e, BytesRead s s.pc 4 b → decode (b 0 ++ b 1 ++ b 2 ++ b 3) = .error e → halts 0x0040_0000 .illegal))

/-- 30_encoding.md R121, R120: ldcr and stcr with crN in 2 to 31 are illegal words, at every privilege level, and halt the core. That the
halting step is itself a next state is log 2. -/
def Obligations.IllegalControlRegisterHalts : Prop :=
  ∀ (s : State) (rd rs1 crN : BitVec 5) (w : Word), s.run = .running → s.pc.extractLsb' 0 2 = 0 → memRead s s.pc 4 = .ok w →
    2 ≤ crN.toNat → (w = wordR 0x31 rd 0 4 crN ∨ w = wordR 0x31 0 rs1 5 crN) →
    step s = .next { s with cr0 := s.cr0 ||| 0x0040_0000, run := .halted .illegal }

/-- 70_reset_and_hazards.md R391: what reset leaves. -/
def Obligations.ResetValues : Prop :=
  (∀ i, State.reset.reg i = 0) ∧ State.reset.pc = 0 ∧ State.reset.nip = 0 ∧ State.reset.fip = 0 ∧ State.reset.sxip = 0 ∧
  State.reset.snip = 0 ∧ State.reset.sfip = 0 ∧ State.reset.cr0 = 0 ∧ State.reset.tvec = 0 ∧ State.reset.ptb = 0 ∧
  State.reset.mmuEn = false ∧ State.reset.priv = .supervisor ∧ State.reset.run = .running ∧
  (∀ a, State.reset.mem.read a = 0) ∧ State.reset.memSize = 0x0100_0000

/-! ## Invariants of the machine -/

/-- The invariant holds after reset, whatever MEM_SIZE. -/
def Obligations.InvariantAfterReset : Prop := ∀ n, (State.resetWith n).Inv

/-- Every step keeps the invariant: memory stays canonical and below MEM_SIZE, the reserved bits of CR0 stay 0 (10_state.md R29), the
page-table base stays 4 KiB-aligned (R36). -/
def Obligations.StepKeepsInvariant : Prop := ∀ s t : State, s.Inv → step s = .next t → t.Inv

/-- In every state a session of steps and host actions passes through, the invariant holds. That a host write keeps the bits that
always read as 0 is the model's reading (log 9). -/
def Obligations.SessionKeepsInvariant : Prop := ∀ s : State, HostReaches s → s.Inv

/-- 10_state.md R33, R34, 60_exceptions.md R350, R364: no step changes priv or a shadow pointer. Nor does one change the size of memory,
which is "fixed-size" (10_state.md R39); that the model holds that size as a field is log 5. -/
def Obligations.StepKeepsPrivilegeAndShadows : Prop :=
  ∀ s t : State, step s = .next t →
    t.priv = s.priv ∧ t.sxip = s.sxip ∧ t.snip = s.snip ∧ t.sfip = s.sfip ∧ t.memSize = s.memSize

/-- 10_state.md R27, R28: a sticky or exception bit that a step clears was cleared by a Supervisor `stcr cr0`. -/
def Obligations.OnlyStcrClearsStickyFlags : Prop :=
  ∀ (s t : State) (f : Flag), f ∈ [.DZ, .NX, .NV, .OF, .UF, .BND, .TRP, .PF, .WP, .PRV, .AE, .ILL] → step s = .next t →
    s.flag f = true → t.flag f = false →
    s.priv = .supervisor ∧ ∃ w rs1, fetch s = .ok w ∧ decode w = .ok (.stcr rs1 0)

/-- 10_state.md R32, R35-R37, 20_memory.md R81: which instructions write nip, fip, tvec, ptb, mmu_en and memory. -/
def Obligations.WritersOfSpecialState : Prop :=
  ∀ (i : Instr) (s t : State), exec i s = .next t →
    ((t.nip ≠ s.nip ∨ t.fip ≠ s.fip) → i = .rte ∧ s.priv = .supervisor) ∧
    (t.tvec ≠ s.tvec → (∃ v, i = .trap v) ∨ (∃ r, i = .stcr r 1 ∧ s.priv = .supervisor)) ∧
    (t.ptb ≠ s.ptb → ∃ r, i = .ldptb r ∧ s.priv = .supervisor) ∧
    (t.mmuEn ≠ s.mmuEn → ((∃ r, i = .ldptb r) ∨ i = .tlbinv) ∧ s.priv = .supervisor) ∧
    ((∃ a, t.mem.read a ≠ s.mem.read a) → ∃ rs r imm, i = .stb rs r imm ∨ i = .sth rs r imm ∨ i = .stw rs r imm ∨ i = .std rs r imm)

/-- 41_control.md R216, 30_encoding.md R117: control transfer happens only by a branch, a jump or a Supervisor rte; every other
instruction advances pc by 4. -/
def Obligations.OnlyControlFlowRedirects : Prop :=
  ∀ (i : Instr) (s t : State), i.wellFormed = true → exec i s = .next t → t.pc ≠ s.pc + 4 →
    (∃ a b off, i = .beq a b off ∨ i = .bne a b off ∨ i = .blt a b off ∨ i = .bge a b off ∨ i = .bgt a b off ∨ i = .ble a b off) ∨
    (∃ r, i = .jmp r ∨ i = .jsr r) ∨ (i = .rte ∧ s.priv = .supervisor)

/-- 60_exceptions.md R350, 45_loadstore.md R334: in every state every instruction answers a next state in which the core is as it
was, running or halted: no instruction halts it, and none faults the machine. -/
def Obligations.EveryInstructionGoesOn : Prop :=
  ∀ (i : Instr) (s : State), i.wellFormed = true → ∃ t, exec i s = .next t ∧ t.run = s.run

/-- 30_encoding.md R122: in User mode the supervisor-only instructions set PRV and advance, nothing else; no other instruction
writes PRV. -/
def Obligations.PrivilegeCheck : Prop :=
  (∀ (i : Instr) (s : State), i.wellFormed = true → Gated i → s.priv = .user →
    exec i s = .next { s with cr0 := s.cr0 ||| 0x0010_0000, pc := s.pc + 4 }) ∧
  (∀ (i : Instr) (s t : State), i.wellFormed = true → ¬ Gated i → exec i s = .next t → t.cr0.getLsbD 20 = s.cr0.getLsbD 20)

/-- 60_exceptions.md R362, R364: with the MMU off, every instruction but the supervisor-only ones does the same at both levels. -/
def Obligations.OtherInstructionsIgnorePrivilege : Prop :=
  ∀ (i : Instr) (s t : State) (p : Priv), i.wellFormed = true → ¬ Gated i → s.mmuEn = false → exec i s = .next t →
    exec i { s with priv := p } = .next { t with priv := p }

/-! ## Integer -/

/-- 40_integer.md R140, R141, R142, R150. -/
def Obligations.AddSubtractMultiply : Prop :=
  ∀ (rd rs1 rs2 : RegIdx) (imm : BitVec 16) (s : State),
    Runs (wordR 0x30 rd rs1 0 rs2) (.add rd rs1 rs2) s
      (WritesRd s rd (BitVec.ofNat 32 ((s.reg rs1).toNat + (s.reg rs2).toNat)) s.cr0) ∧
    Runs (wordR 0x30 rd rs1 1 rs2) (.sub rd rs1 rs2) s
      (WritesRd s rd (BitVec.ofInt 32 ((s.reg rs1).toNat - (s.reg rs2).toNat)) s.cr0) ∧
    Runs (wordR 0x30 rd rs1 2 rs2) (.mul rd rs1 rs2) s
      (WritesRd s rd (BitVec.ofNat 32 ((s.reg rs1).toNat * (s.reg rs2).toNat)) s.cr0) ∧
    Runs (wordI 0x01 rd rs1 imm) (.addi rd rs1 imm) s
      (WritesRd s rd (BitVec.ofInt 32 ((s.reg rs1).toInt + imm.toInt)) s.cr0)

/-- 40_integer.md R143, R145: signed division toward zero and the remainder with the dividend's sign, exact but for MIN_INT / -1. -/
def Obligations.SignedDivide : Prop :=
  ∀ (rd rs1 rs2 : RegIdx) (s : State),
    let a := s.reg rs1
    let b := s.reg rs2
    Runs (wordR 0x30 rd rs1 3 rs2) (.div rd rs1 rs2) s (WritesRdSuch s rd (fun v =>
      if b = 0 then v = 0 else if a = 0x8000_0000 ∧ b = 0xFFFF_FFFF then v = 0x8000_0000
      else v.toInt = a.toInt.tdiv b.toInt) (withDz s.cr0 b)) ∧
    Runs (wordR 0x30 rd rs1 5 rs2) (.rem rd rs1 rs2) s (WritesRdSuch s rd (fun v =>
      if b = 0 then v = 0 else if a = 0x8000_0000 ∧ b = 0xFFFF_FFFF then v = 0
      else v.toInt = a.toInt.tmod b.toInt) (withDz s.cr0 b))

/-- 40_integer.md R144, R146. -/
def Obligations.UnsignedDivide : Prop :=
  ∀ (rd rs1 rs2 : RegIdx) (s : State),
    let a := s.reg rs1
    let b := s.reg rs2
    Runs (wordR 0x30 rd rs1 4 rs2) (.divu rd rs1 rs2) s (WritesRdSuch s rd (fun v =>
      if b = 0 then v = 0 else v.toNat = a.toNat / b.toNat) (withDz s.cr0 b)) ∧
    Runs (wordR 0x30 rd rs1 6 rs2) (.remu rd rs1 rs2) s (WritesRdSuch s rd (fun v =>
      if b = 0 then v = 0 else v.toNat = a.toNat % b.toNat) (withDz s.cr0 b))

/-- 40_integer.md R170: dividend, quotient and remainder, and the sign of the remainder. -/
def Obligations.DivisionIdentities : Prop :=
  ∀ (s : State) (rq rr rs1 rs2 : RegIdx) (t u v w : State), s.reg rs2 ≠ 0 →
    exec (.div rq rs1 rs2) s = .next t → exec (.rem rr rs1 rs2) s = .next u →
    exec (.divu rq rs1 rs2) s = .next v → exec (.remu rr rs1 rs2) s = .next w →
    (¬ (s.reg rs1 = 0x8000_0000 ∧ s.reg rs2 = 0xFFFF_FFFF) →
      (s.reg rs1).toInt = (s.reg rs2).toInt * (t.reg rq).toInt + (u.reg rr).toInt ∧
      (u.reg rr).toInt.natAbs < (s.reg rs2).toInt.natAbs ∧
      ((u.reg rr).toInt = 0 ∨ ((u.reg rr).toInt < 0 ↔ (s.reg rs1).toInt < 0))) ∧
    (s.reg rs1).toNat = (s.reg rs2).toNat * (v.reg rq).toNat + (w.reg rr).toNat ∧ (w.reg rr).toNat < (s.reg rs2).toNat

/-- 40_integer.md R147, R148: the pair (rd, rd+1 mod 32) is the exact 64-bit product, high word first. -/
def Obligations.LongMultiply : Prop :=
  ∀ (rd rs1 rs2 : RegIdx) (s : State),
    Runs (wordR 0x30 rd rs1 7 rs2) (.muls rd rs1 rs2) s (fun t =>
      (t.reg rd ++ t.reg (rd + 1)).toInt = (s.reg rs1).toInt * (s.reg rs2).toInt ∧ Frame s t [rd, rd + 1] s.cr0 (s.pc + 4)) ∧
    Runs (wordR 0x30 rd rs1 8 rs2) (.mulu rd rs1 rs2) s (fun t =>
      (t.reg rd ++ t.reg (rd + 1)).toNat = (s.reg rs1).toNat * (s.reg rs2).toNat ∧ Frame s t [rd, rd + 1] s.cr0 (s.pc + 4))

/-- 40_integer.md R149. -/
def Obligations.LongDivide : Prop :=
  ∀ (rd rs1 rs2 : RegIdx) (s : State),
    let n := (s.reg rs1).toNat * 2 ^ 32 + (s.reg (rs1 + 1)).toNat
    let dv := s.reg rs2
    Runs (wordR 0x30 rd rs1 9 rs2) (.divud rd rs1 rs2) s (fun t =>
      (if dv = 0 then t.reg rd = 0 ∧ t.reg (rd + 1) = 0
       else t.reg rd = BitVec.ofNat 32 (n / dv.toNat) ∧ (t.reg (rd + 1)).toNat = n % dv.toNat) ∧
      Frame s t [rd, rd + 1] (withDz s.cr0 dv) (s.pc + 4))

/-- 40_integer.md R151-R157: bit by bit. -/
def Obligations.LogicalOperations : Prop :=
  ∀ (rd rs1 rs2 : RegIdx) (imm : BitVec 16) (s : State),
    let a := s.reg rs1
    let b := s.reg rs2
    Runs (wordI 0x02 rd rs1 imm) (.andi rd rs1 imm) s (WritesRdSuch s rd (fun v =>
      ∀ k < 32, v.getLsbD k = (a.getLsbD k && (decide (k < 16) && imm.getLsbD k))) s.cr0) ∧
    Runs (wordI 0x03 rd rs1 imm) (.ori rd rs1 imm) s (WritesRdSuch s rd (fun v =>
      ∀ k < 32, v.getLsbD k = (a.getLsbD k || (decide (k < 16) && imm.getLsbD k))) s.cr0) ∧
    Runs (wordI 0x04 rd rs1 imm) (.xori rd rs1 imm) s (WritesRdSuch s rd (fun v =>
      ∀ k < 32, v.getLsbD k = (a.getLsbD k ^^ (decide (k < 16) && imm.getLsbD k))) s.cr0) ∧
    Runs (wordI 0x05 rd rs1 imm) (.oru rd rs1 imm) s (WritesRdSuch s rd (fun v =>
      ∀ k < 32, v.getLsbD k = (a.getLsbD k || (decide (16 ≤ k) && imm.getLsbD (k - 16)))) s.cr0) ∧
    Runs (wordR 0x30 rd rs1 16 rs2) (.and rd rs1 rs2) s (WritesRdSuch s rd (fun v =>
      ∀ k < 32, v.getLsbD k = (a.getLsbD k && b.getLsbD k)) s.cr0) ∧
    Runs (wordR 0x30 rd rs1 17 rs2) (.or rd rs1 rs2) s (WritesRdSuch s rd (fun v =>
      ∀ k < 32, v.getLsbD k = (a.getLsbD k || b.getLsbD k)) s.cr0) ∧
    Runs (wordR 0x30 rd rs1 18 rs2) (.xor rd rs1 rs2) s (WritesRdSuch s rd (fun v =>
      ∀ k < 32, v.getLsbD k = (a.getLsbD k ^^ b.getLsbD k)) s.cr0)

/-- 40_integer.md R160, R161: EQ, LT and GT tell the relation, UN and every other bit keep their value. -/
def Obligations.IntegerCompare : Prop :=
  ∀ (rs1 rs2 : RegIdx) (s : State),
    let a := s.reg rs1
    let b := s.reg rs2
    Runs (wordR 0x30 0 rs1 10 rs2) (.cmp rs1 rs2) s (fun t =>
      t.cr0.getLsbD 0 = decide (a.toInt = b.toInt) ∧ t.cr0.getLsbD 1 = decide (a.toInt < b.toInt) ∧
      t.cr0.getLsbD 2 = decide (a.toInt > b.toInt) ∧ (∀ k, 3 ≤ k → t.cr0.getLsbD k = s.cr0.getLsbD k) ∧
      Frame s t [] t.cr0 (s.pc + 4)) ∧
    Runs (wordR 0x30 0 rs1 11 rs2) (.cmpu rs1 rs2) s (fun t =>
      t.cr0.getLsbD 0 = decide (a.toNat = b.toNat) ∧ t.cr0.getLsbD 1 = decide (a.toNat < b.toNat) ∧
      t.cr0.getLsbD 2 = decide (a.toNat > b.toNat) ∧ (∀ k, 3 ≤ k → t.cr0.getLsbD k = s.cr0.getLsbD k) ∧
      Frame s t [] t.cr0 (s.pc + 4))

/-- 40_integer.md R158, R159, R162, R163: width b[4:0] and offset b[9:5], bit by bit; a field of width 0 is empty; a rotation takes
bit (k + n) mod 32 to bit k. -/
def Obligations.BitFieldsAndRotate : Prop :=
  ∀ (rd rs1 rs2 : RegIdx) (s : State),
    let a := s.reg rs1
    let width := (s.reg rs2).toNat % 32
    let offset := (s.reg rs2).toNat / 32 % 32
    Runs (wordR 0x30 rd rs1 24 rs2) (.extu rd rs1 rs2) s (WritesRdSuch s rd (fun v =>
      ∀ k < 32, v.getLsbD k = (decide (k < width) && a.getLsbD (k + offset))) s.cr0) ∧
    Runs (wordR 0x30 rd rs1 25 rs2) (.mak rd rs1 rs2) s (WritesRdSuch s rd (fun v =>
      ∀ k < 32, v.getLsbD k = (decide (offset ≤ k ∧ k < offset + width) && a.getLsbD (k - offset))) s.cr0) ∧
    Runs (wordR 0x30 rd rs1 26 rs2) (.rot rd rs1 rs2) s (WritesRdSuch s rd (fun v =>
      ∀ k < 32, v.getLsbD k = a.getLsbD ((k + width) % 32)) s.cr0)

/-- 40_integer.md R164, R165: the least bit that is one (zero), or 32. -/
def Obligations.FindFirstBit : Prop :=
  ∀ (rd rs1 : RegIdx) (s : State),
    let a := s.reg rs1
    Runs (wordR 0x30 rd rs1 27 0) (.ff1 rd rs1) s (WritesRdSuch s rd (fun v =>
      v.toNat ≤ 32 ∧ (∀ k < v.toNat, a.getLsbD k = false) ∧ (v.toNat < 32 → a.getLsbD v.toNat = true)) s.cr0) ∧
    Runs (wordR 0x30 rd rs1 28 0) (.ff0 rd rs1) s (WritesRdSuch s rd (fun v =>
      v.toNat ≤ 32 ∧ (∀ k < v.toNat, a.getLsbD k = true) ∧ (v.toNat < 32 → a.getLsbD v.toNat = false)) s.cr0)

/-- 40_integer.md R166-R169. -/
def Obligations.ByteAndHalfExtracts : Prop :=
  ∀ (rd rs1 : RegIdx) (s : State),
    let a := s.reg rs1
    Runs (wordR 0x30 rd rs1 29 0) (.sextb rd rs1) s (WritesRdSuch s rd (fun v => v.toInt = (BitVec.ofNat 8 a.toNat).toInt) s.cr0) ∧
    Runs (wordR 0x30 rd rs1 30 0) (.zextb rd rs1) s (WritesRdSuch s rd (fun v => v.toNat = a.toNat % 256) s.cr0) ∧
    Runs (wordR 0x30 rd rs1 31 0) (.sexth rd rs1) s (WritesRdSuch s rd (fun v => v.toInt = (BitVec.ofNat 16 a.toNat).toInt) s.cr0) ∧
    Runs (wordR 0x30 rd rs1 32 0) (.zexth rd rs1) s (WritesRdSuch s rd (fun v => v.toNat = a.toNat % 65536) s.cr0)

/-! ## Control -/

/-- 41_control.md R201-R206: a taken branch goes to pc + off16, one that is not taken to pc + 4; nothing but pc changes. -/
def Obligations.ConditionalBranches : Prop :=
  ∀ (rs1 rs2 : RegIdx) (off : BitVec 16) (s : State),
    let a := (s.reg rs1).toInt
    let b := (s.reg rs2).toInt
    let goesTo := fun (taken : Prop) (t : State) =>
      (taken → t.pc = BitVec.ofInt 32 (s.pc.toNat + off.toInt)) ∧ (¬ taken → t.pc = s.pc + 4) ∧ Frame s t [] s.cr0 t.pc
    Runs (wordI 0x18 rs1 rs2 off) (.beq rs1 rs2 off) s (goesTo (a = b)) ∧
    Runs (wordI 0x19 rs1 rs2 off) (.bne rs1 rs2 off) s (goesTo (a ≠ b)) ∧
    Runs (wordI 0x1A rs1 rs2 off) (.blt rs1 rs2 off) s (goesTo (a < b)) ∧
    Runs (wordI 0x1B rs1 rs2 off) (.bge rs1 rs2 off) s (goesTo (a ≥ b)) ∧
    Runs (wordI 0x1C rs1 rs2 off) (.bgt rs1 rs2 off) s (goesTo (a > b)) ∧
    Runs (wordI 0x1D rs1 rs2 off) (.ble rs1 rs2 off) s (goesTo (a ≤ b))

/-- 41_control.md R207, R208: jsr reads its target before it writes the link into the same register. -/
def Obligations.RegisterJumps : Prop :=
  ∀ (rs1 : RegIdx) (s : State),
    Runs (wordR 0x31 0 rs1 0 0) (.jmp rs1) s (fun t => Frame s t [] s.cr0 (s.reg rs1)) ∧
    Runs (wordR 0x31 0 rs1 1 0) (.jsr rs1) s (fun t => t.reg rs1 = s.pc + 4 ∧ Frame s t [rs1] s.cr0 (s.reg rs1))

/-- 41_control.md R210, R211: trap records its vector and sets TRP; tbnd sets BND when rs1 exceeds rs2, unsigned; both advance. -/
def Obligations.TrapAndBoundsCheck : Prop :=
  ∀ (rs1 rs2 : RegIdx) (vec : BitVec 9) (s : State),
    Runs (wordT 0x20 vec) (.trap vec) s (fun t => t = { s with cr0 := s.cr0 ||| 0x0002_0000, tvec := vec, pc := s.pc + 4 }) ∧
    Runs (wordR 0x31 0 rs1 2 rs2) (.tbnd rs1 rs2) s (fun t =>
      Frame s t [] (if (s.reg rs2).toNat < (s.reg rs1).toNat then s.cr0 ||| 0x0001_0000 else s.cr0) (s.pc + 4))

/-- 41_control.md R213: in Supervisor mode rte restores pc, nip and fip from their shadows and changes nothing else; in User mode it
sets PRV and advances. -/
def Obligations.ReturnFromException : Prop :=
  ∀ s : State, decode (wordR 0x31 0 0 3 0) = .ok .rte ∧
    (s.priv = .supervisor → exec .rte s = .next { s with pc := s.sxip, nip := s.snip, fip := s.sfip }) ∧
    (s.priv = .user → exec .rte s = .next { s with cr0 := s.cr0 ||| 0x0010_0000, pc := s.pc + 4 })

/-- 41_control.md R214, R215: ldcr reads CR0 or tvec at every level; in Supervisor mode stcr writes the defined bits of CR0, or the
low nine bits to tvec; in User mode it sets PRV and advances. -/
def Obligations.ControlRegisterTransfer : Prop :=
  ∀ (rd rs1 : RegIdx) (s : State),
    Runs (wordR 0x31 rd 0 4 0) (.ldcr rd 0) s (WritesRd s rd s.cr0 s.cr0) ∧
    Runs (wordR 0x31 rd 0 4 1) (.ldcr rd 1) s (WritesRdSuch s rd (fun v => v.toNat = s.tvec.toNat) s.cr0) ∧
    decode (wordR 0x31 0 rs1 5 0) = .ok (.stcr rs1 0) ∧ decode (wordR 0x31 0 rs1 5 1) = .ok (.stcr rs1 1) ∧
    (∀ c : BitVec 5, 2 ≤ c.toNat →
      (∃ e, decode (wordR 0x31 rd 0 4 c) = .error e) ∧ ∃ e, decode (wordR 0x31 0 rs1 5 c) = .error e) ∧
    (s.priv = .supervisor → exec (.stcr rs1 0) s = .next { s with cr0 := s.reg rs1 &&& 0x007F_1FFF, pc := s.pc + 4 }) ∧
    (s.priv = .supervisor →
      exec (.stcr rs1 1) s = .next { s with tvec := BitVec.ofNat 9 (s.reg rs1).toNat, pc := s.pc + 4 }) ∧
    (s.priv = .user → ∀ c : RegIdx, c.toNat < 2 →
      exec (.stcr rs1 c) s = .next { s with cr0 := s.cr0 ||| 0x0010_0000, pc := s.pc + 4 })

/-! ## Floating point -/

/-- 42_float.md R234: exactly one of FEQ, FLT, FGT and FUN ends as 1, and the rest of CR0 is unchanged. -/
def Obligations.FloatCompare : Prop :=
  ∀ (rs1 rs2 : RegIdx) (s : State),
    let a := s.reg rs1
    let b := s.reg rs2
    Runs (wordR 0x32 0 rs1 4 rs2) (.fcmp rs1 rs2) s (fun t =>
      (t.cr0.getLsbD 7 = true ↔ isNaN a = true ∨ isNaN b = true) ∧
      (t.cr0.getLsbD 5 = true ↔ isNaN a = false ∧ isNaN b = false ∧ IeeeLess a b) ∧
      (t.cr0.getLsbD 6 = true ↔ isNaN a = false ∧ isNaN b = false ∧ IeeeLess b a) ∧
      (t.cr0.getLsbD 4 = true ↔ isNaN a = false ∧ isNaN b = false ∧ ¬ IeeeLess a b ∧ ¬ IeeeLess b a) ∧
      ([4, 5, 6, 7].filter t.cr0.getLsbD).length = 1 ∧
      (∀ k, k < 4 ∨ 8 ≤ k → t.cr0.getLsbD k = s.cr0.getLsbD k) ∧ Frame s t [] t.cr0 (s.pc + 4))

/-- 42_float.md R235, R236, with the operations of 00_scope.md R11. -/
def Obligations.FloatAddSubtract : Prop :=
  ∀ (rd rs1 rs2 : RegIdx) (s : State),
    let a := s.reg rs1
    let b := s.reg rs2
    let r := fadd32 a b
    let q := fsub32 a b
    Runs (wordR 0x32 rd rs1 0 rs2) (.fadd rd rs1 rs2) s (WritesRd s rd r
      (s.cr0 ||| (if isInf r ∧ ¬ isInf a ∧ ¬ isInf b then 0x0000_0800 else 0)
        ||| (if isZero r ∧ ¬ isZero a ∧ ¬ isZero b then 0x0000_1000 else 0))) ∧
    Runs (wordR 0x32 rd rs1 1 rs2) (.fsub rd rs1 rs2) s (WritesRd s rd q (s.cr0 ||| (if isNaN q then 0x0000_0400 else 0)))

/-- 42_float.md R237, R238, with the operations of 00_scope.md R11. -/
def Obligations.FloatMultiplyDivide : Prop :=
  ∀ (rd rs1 rs2 : RegIdx) (s : State),
    let a := s.reg rs1
    let b := s.reg rs2
    let range := fun r : Word => s.cr0 ||| (if isInf r ∧ ¬ isInf a ∧ ¬ isInf b then 0x0000_0800 else 0)
      ||| (if isZero r ∧ ¬ isZero a ∧ ¬ isZero b then 0x0000_1000 else 0)
    Runs (wordR 0x32 rd rs1 2 rs2) (.fmul rd rs1 rs2) s (WritesRd s rd (fmul32 a b) (range (fmul32 a b))) ∧
    Runs (wordR 0x32 rd rs1 3 rs2) (.fdiv rd rs1 rs2) s (
      if isZero b then
        if isZero a then WritesRd s rd 0x7FC0_0000 (s.cr0 ||| 0x0000_0500)
        else WritesRd s rd (if a.getLsbD 31 then 0xFF80_0000 else 0x7F80_0000) (s.cr0 ||| 0x0000_0100)
      else WritesRd s rd (fdiv32 a b) (range (fdiv32 a b)))

/-- 42_float.md R231, R235, R236: the sum and the difference of finite operands are rounded correctly, and one that is exactly zero is -0
only when both terms are negative zeros. An infinite operand that gives no NaN gives that infinity. The sub-cases are the standard's
(log 10); NaNResultsAreCanonical has the NaN results. -/
def Obligations.AddRoundsToNearestEven : Prop :=
  ∀ a b : Word,
    (IsFinite a → IsFinite b →
      RoundsTo (exactValue a + exactValue b) 1 (fadd32 a b) ∧ RoundsTo (exactValue a - exactValue b) 1 (fsub32 a b) ∧
      (exactValue a + exactValue b = 0 → fadd32 a b = if signBit a = true ∧ signBit b = true then 0x8000_0000 else 0) ∧
      (exactValue a - exactValue b = 0 → fsub32 a b = if signBit a = true ∧ signBit b = false then 0x8000_0000 else 0)) ∧
    (isInf a = true → isNaN b = false →
      (¬ (isInf b = true ∧ signBit b ≠ signBit a) → fadd32 a b = a) ∧
      (¬ (isInf b = true ∧ signBit b = signBit a) → fsub32 a b = a)) ∧
    (IsFinite a → isInf b = true → fadd32 a b = b ∧ fsub32 a b = b ^^^ 0x8000_0000)

/-- 42_float.md R231, R237, R238: the product and the quotient of finite operands are rounded correctly. A result that is no NaN has the
exclusive or of the signs, a zero or infinite one too; an infinite factor or dividend gives an infinity, and a finite dividend over an
infinity gives a zero. The sub-cases are the standard's (log 10); NaNResultsAreCanonical has the NaN results. -/
def Obligations.MultiplyDivideRoundToNearestEven : Prop :=
  ∀ a b : Word,
    (IsFinite a → IsFinite b →
      RoundsTo (exactValue a * exactValue b) (2 ^ 149) (fmul32 a b) ∧
      (isZero b = false → RoundsTo (exactValue a * 2 ^ 149) (exactValue b) (fdiv32 a b))) ∧
    (isNaN (fmul32 a b) = false →
      signBit (fmul32 a b) = (signBit a != signBit b) ∧ (isInf a = true ∨ isInf b = true → isInf (fmul32 a b) = true)) ∧
    (isNaN (fdiv32 a b) = false →
      signBit (fdiv32 a b) = (signBit a != signBit b) ∧ (isInf a = true → isInf (fdiv32 a b) = true) ∧
      (isInf b = true → isZero (fdiv32 a b) = true))

/-- 42_float.md R232: every NaN result is the canonical NaN, and there is one exactly for a NaN operand, for infinities of unlike sign
added (or of like sign subtracted), for zero times infinity, and for infinity over infinity or zero over zero. Which operands
give a NaN is the standard's (log 10). -/
def Obligations.NaNResultsAreCanonical : Prop :=
  ∀ a b : Word,
    (isNaN (fadd32 a b) = true ↔ fadd32 a b = 0x7FC0_0000) ∧ (isNaN (fsub32 a b) = true ↔ fsub32 a b = 0x7FC0_0000) ∧
    (isNaN (fmul32 a b) = true ↔ fmul32 a b = 0x7FC0_0000) ∧ (isNaN (fdiv32 a b) = true ↔ fdiv32 a b = 0x7FC0_0000) ∧
    (isNaN (fadd32 a b) = true ↔ isNaN a ∨ isNaN b ∨ (isInf a ∧ isInf b ∧ signBit a ≠ signBit b)) ∧
    (isNaN (fsub32 a b) = true ↔ isNaN a ∨ isNaN b ∨ (isInf a ∧ isInf b ∧ signBit a = signBit b)) ∧
    (isNaN (fmul32 a b) = true ↔ isNaN a ∨ isNaN b ∨ (isInf a ∧ isZero b) ∨ (isZero a ∧ isInf b)) ∧
    (isNaN (fdiv32 a b) = true ↔ isNaN a ∨ isNaN b ∨ (isInf a ∧ isInf b) ∨ (isZero a ∧ isZero b))

/-- 42_float.md R239: the integer rounded to nearest, ties to even; zero gives +0; no flag. -/
def Obligations.IntegerToFloat : Prop :=
  ∀ (rd rs1 : RegIdx) (s : State),
    Runs (wordR 0x32 rd rs1 5 0) (.flt rd rs1) s (WritesRdSuch s rd (fun v =>
      RoundsTo ((s.reg rs1).toInt * 2 ^ 149) 1 v ∧ IsFinite v ∧ (s.reg rs1 = 0 → v = 0)) s.cr0)

/-- 42_float.md R240: NaN and infinity give 0 with NV, a value out of range saturates with OF, any other is rounded to the nearest
integer, ties to even. -/
def Obligations.FloatToInteger : Prop :=
  ∀ (rd rs1 : RegIdx) (s : State),
    let a := s.reg rs1
    let v := exactValue a
    Runs (wordR 0x32 rd rs1 6 0) (.int rd rs1) s (fun t =>
      if isNaN a ∨ isInf a then WritesRd s rd 0 (s.cr0 ||| 0x0000_0400) t
      else if 2 ^ 31 * 2 ^ 149 ≤ v then WritesRd s rd 0x7FFF_FFFF (s.cr0 ||| 0x0000_0800) t
      else if v < -(2 ^ 31 * 2 ^ 149) then WritesRd s rd 0x8000_0000 (s.cr0 ||| 0x0000_0800) t
      else ∃ n : Int, 2 * (n * 2 ^ 149 - v).natAbs ≤ 2 ^ 149 ∧ (2 * (n * 2 ^ 149 - v).natAbs = 2 ^ 149 → n % 2 = 0) ∧
        WritesRd s rd (BitVec.ofInt 32 n) s.cr0 t)

/-! ## Vector -/

/-- 43_vector.md R263-R267: lane k is register (n + k) mod 32; the sources are the old registers; NV for a NaN lane of vadd, vsub and
vmul, DZ for a zero divisor of vdiv. -/
def Obligations.FloatQuads : Prop :=
  ∀ (rd rs1 rs2 : RegIdx) (s : State),
    let quad := fun (f : Word → Word → Word) (cr0 : Word) (t : State) =>
      (∀ k : RegIdx, k.toNat < 4 → t.reg (rd + k) = f (s.reg (rs1 + k)) (s.reg (rs2 + k))) ∧
      Frame s t [rd, rd + 1, rd + 2, rd + 3] cr0 (s.pc + 4)
    let someNaN := fun (f : Word → Word → Word) => ∃ k : RegIdx, k.toNat < 4 ∧ isNaN (f (s.reg (rs1 + k)) (s.reg (rs2 + k))) = true
    let lanes := fun (f : Word → Word → Word) (t : State) =>
      (someNaN f → quad f (s.cr0 ||| 0x0000_0400) t) ∧ (¬ someNaN f → quad f s.cr0 t)
    let divide := fun a b : Word => if isZero b then 0x7FC0_0000 else fdiv32 a b
    let someZero := ∃ k : RegIdx, k.toNat < 4 ∧ isZero (s.reg (rs2 + k)) = true
    Runs (wordR 0x33 rd rs1 0 rs2) (.vadd rd rs1 rs2) s (lanes fadd32) ∧
    Runs (wordR 0x33 rd rs1 1 rs2) (.vsub rd rs1 rs2) s (lanes fsub32) ∧
    Runs (wordR 0x33 rd rs1 2 rs2) (.vmul rd rs1 rs2) s (lanes fmul32) ∧
    Runs (wordR 0x33 rd rs1 3 rs2) (.vdiv rd rs1 rs2) s (fun t =>
      (someZero → quad divide (s.cr0 ||| 0x0000_0100) t) ∧ (¬ someZero → quad divide s.cr0 t)) ∧
    Runs (wordR 0x33 rd rs1 4 0) (.vmov rd rs1) s (fun t =>
      (∀ k : RegIdx, k.toNat < 4 → t.reg (rd + k) = s.reg (rs1 + k)) ∧ Frame s t [rd, rd + 1, rd + 2, rd + 3] s.cr0 (s.pc + 4))

/-- 43_vector.md R268-R272: the four bytes compared and selected as unsigned values. -/
def Obligations.ByteLaneCompareMinMax : Prop :=
  ∀ (rd rs1 rs2 : RegIdx) (s : State),
    let a := s.reg rs1
    let b := s.reg rs2
    let lanes := fun (f : Nat → Nat → Nat) => WritesRdSuch s rd (fun v => ∀ i < 4, byteAt v i = f (byteAt a i) (byteAt b i)) s.cr0
    Runs (wordR 0x33 rd rs1 8 rs2) (.vcmpeq rd rs1 rs2) s (lanes (fun x y => if x = y then 0xFF else 0)) ∧
    Runs (wordR 0x33 rd rs1 9 rs2) (.vcmpgt rd rs1 rs2) s (lanes (fun x y => if x > y then 0xFF else 0)) ∧
    Runs (wordR 0x33 rd rs1 10 rs2) (.vcmplt rd rs1 rs2) s (lanes (fun x y => if x < y then 0xFF else 0)) ∧
    Runs (wordR 0x33 rd rs1 11 rs2) (.vmin rd rs1 rs2) s (lanes min) ∧
    Runs (wordR 0x33 rd rs1 12 rs2) (.vmax rd rs1 rs2) s (lanes max)

/-- 43_vector.md R273-R279: shuffle, interleaves, extract and insert, byte by byte. -/
def Obligations.ByteLaneMoves : Prop :=
  ∀ (rd rs1 rs2 : RegIdx) (imm : BitVec 16) (s : State),
    let a := s.reg rs1
    let b := s.reg rs2
    let such := fun value : Word → Prop => WritesRdSuch s rd value s.cr0
    let insert := fun p : Nat => such (fun v => ∀ i < 4, byteAt v i = if i = p then a.toNat % 256 else byteAt (s.reg rd) i)
    Runs (wordR 0x33 rd rs1 13 rs2) (.vshuf rd rs1 rs2) s (such (fun v => ∀ i < 4, byteAt v i = byteAt a (b.toNat / 4 ^ i % 4))) ∧
    Runs (wordR 0x33 rd rs1 14 rs2) (.vinth rd rs1 rs2) s (such (fun v =>
      byteAt v 0 = byteAt a 2 ∧ byteAt v 1 = byteAt b 2 ∧ byteAt v 2 = byteAt a 3 ∧ byteAt v 3 = byteAt b 3)) ∧
    Runs (wordR 0x33 rd rs1 15 rs2) (.vintl rd rs1 rs2) s (such (fun v =>
      byteAt v 0 = byteAt a 0 ∧ byteAt v 1 = byteAt b 0 ∧ byteAt v 2 = byteAt a 1 ∧ byteAt v 3 = byteAt b 1)) ∧
    Runs (wordR 0x33 rd rs1 16 rs2) (.vextb rd rs1 rs2) s (such (fun v => v.toNat = byteAt a (b.toNat % 4))) ∧
    Runs (wordI 0x21 rd rs1 imm) (.vextbi rd rs1 imm) s (such (fun v => v.toNat = byteAt a (imm.toNat % 4))) ∧
    Runs (wordR 0x33 rd rs1 17 rs2) (.vinsb rd rs1 rs2) s (insert (b.toNat % 4)) ∧
    Runs (wordI 0x22 rd rs1 imm) (.vinsbi rd rs1 imm) s (insert (imm.toNat % 4))

/-- 43_vector.md R280-R282: each halfword truncated to its low byte; each byte zero-extended into a halfword. -/
def Obligations.PackAndUnpack : Prop :=
  ∀ (rd rs1 rs2 : RegIdx) (s : State),
    let a := s.reg rs1
    let b := s.reg rs2
    Runs (wordR 0x33 rd rs1 18 rs2) (.vpack rd rs1 rs2) s (WritesRdSuch s rd (fun v =>
      byteAt v 0 = byteAt a 0 ∧ byteAt v 1 = byteAt a 2 ∧ byteAt v 2 = byteAt b 0 ∧ byteAt v 3 = byteAt b 2) s.cr0) ∧
    Runs (wordR 0x33 rd rs1 19 0) (.vunpkl rd rs1) s (WritesRdSuch s rd (fun v =>
      v.toNat = byteAt a 0 + 2 ^ 16 * byteAt a 1) s.cr0) ∧
    Runs (wordR 0x33 rd rs1 20 0) (.vunpkh rd rs1) s (WritesRdSuch s rd (fun v =>
      v.toNat = byteAt a 2 + 2 ^ 16 * byteAt a 3) s.cr0)

/-! ## System -/

/-- 44_system.md R300-R307: in Supervisor mode the cache operations change nothing but pc, ldptb records the base and turns the MMU
on, tlbinv turns it off; prefetch changes nothing but pc at either level. -/
def Obligations.CacheAndMmuControl : Prop :=
  ∀ (rs1 : RegIdx) (s : State),
    let advanced := fun t : State => t = { s with pc := s.pc + 4 }
    Runs (wordR 0x34 0 rs1 4 0) (.prefetch rs1) s advanced ∧
    (s.priv = .supervisor →
      Runs (wordR 0x34 0 rs1 0 0) (.icache rs1) s advanced ∧ Runs (wordR 0x34 0 rs1 1 0) (.dcache rs1) s advanced ∧
      Runs (wordR 0x34 0 rs1 2 0) (.flush rs1) s advanced ∧ Runs (wordR 0x34 0 rs1 3 0) (.inval rs1) s advanced ∧
      Runs (wordR 0x34 0 rs1 8 0) (.ldptb rs1) s (fun t =>
        t = { s with ptb := BitVec.ofNat 32 ((s.reg rs1).toNat / 4096 * 4096), mmuEn := true, pc := s.pc + 4 }) ∧
      Runs (wordR 0x34 0 0 9 0) .tlbinv s (fun t => t = { s with mmuEn := false, pc := s.pc + 4 })) ∧
    (s.priv = .user → ∀ i ∈ [Instr.icache rs1, .dcache rs1, .flush rs1, .inval rs1, .ldptb rs1, .tlbinv],
      exec i s = .next { s with cr0 := s.cr0 ||| 0x0010_0000, pc := s.pc + 4 })

/-- 44_system.md R308: the translation of rs1 with Read access, at every level; where it fails, PF or AE is set, and rd may hold any
value while every other register is unchanged. -/
def Obligations.TranslateInstruction : Prop :=
  ∀ (rd rs1 : RegIdx) (s : State),
    (∀ pa, translate s (s.reg rs1) .read = .ok pa → Runs (wordR 0x34 rd rs1 10 0) (.xlate rd rs1) s (WritesRd s rd pa s.cr0)) ∧
    (s.mmuEn = false → Runs (wordR 0x34 rd rs1 10 0) (.xlate rd rs1) s (WritesRd s rd (s.reg rs1) s.cr0)) ∧
    (∀ e, translate s (s.reg rs1) .read = .error e → e ≠ .writeProtect ∧
      Runs (wordR 0x34 rd rs1 10 0) (.xlate rd rs1) s (fun t => Frame s t [rd] (s.cr0 ||| faultBit e) (s.pc + 4)))

/-! ## Memory -/

/-- 20_memory.md R66, R67, R68: off, the identity; on, the entry at ptb + 4 * va[31:12], read big-endian from physical memory, and the
checks in their order. -/
def Obligations.TranslationChecks : Prop :=
  ∀ (s : State) (va : Word) (acc : Access),
    let at_ := fun k : Nat => (s.ptb.toNat + va.toNat / 4096 * 4 + k) % 2 ^ 32
    let byte := fun k : Nat => (s.mem.read (at_ k)).toNat
    let pte := byte 0 * 2 ^ 24 + byte 1 * 2 ^ 16 + byte 2 * 2 ^ 8 + byte 3
    (s.mmuEn = false → translate s va acc = .ok va) ∧
    (s.mmuEn = true → (∃ k < 4, s.memSize ≤ at_ k) → translate s va acc = .error .addrError) ∧
    (s.mmuEn = true → (∀ k < 4, at_ k < s.memSize) →
      (pte.testBit 0 = false → translate s va acc = .error .pageFault) ∧
      (pte.testBit 0 = true → pte.testBit 2 = true → s.priv = .user → translate s va acc = .error .pageFault) ∧
      (pte.testBit 0 = true → ¬ (pte.testBit 2 = true ∧ s.priv = .user) → acc = .write → pte.testBit 1 = false →
        translate s va acc = .error .writeProtect) ∧
      (pte.testBit 0 = true → ¬ (pte.testBit 2 = true ∧ s.priv = .user) → ¬ (acc = .write ∧ pte.testBit 1 = false) →
        translate s va acc = .ok (BitVec.ofNat 32 (pte / 4096 * 4096 + va.toNat % 4096))))

/-- 20_memory.md R62, R70, R71: one byte of an access is one byte of physical memory at the translated address; where the translation
fails, the access fails with that fault. -/
def Obligations.ByteAccess : Prop :=
  ∀ (s : State) (va pa : Word) (b : Byte) (e : MemFault),
    (translate s va .read = .ok pa → pa.toNat < s.memSize → readByte s va = .ok (s.mem.read pa.toNat)) ∧
    (translate s va .read = .ok pa → s.memSize ≤ pa.toNat → readByte s va = .error .addrError) ∧
    (translate s va .read = .error e → readByte s va = .error e) ∧
    (translate s va .write = .ok pa → pa.toNat < s.memSize → ∃ t, writeByte s va b = .ok t ∧ t.mem.read pa.toNat = b ∧
      (∀ a, a ≠ pa.toNat → t.mem.read a = s.mem.read a) ∧ t = { s with mem := t.mem }) ∧
    (translate s va .write = .ok pa → s.memSize ≤ pa.toNat → writeByte s va b = .error .addrError) ∧
    (translate s va .write = .error e → writeByte s va b = .error e)

/-- 45_loadstore.md R320, R322-R326: the big-endian value of the bytes at x[rs1] + simm16, extended; or no register and one flag. -/
def Obligations.LoadsOfOneRegister : Prop :=
  ∀ (rd rs1 : RegIdx) (imm : BitVec 16) (s : State),
    let ea := s.reg rs1 + BitVec.ofInt 32 imm.toInt
    LoadsBytes (wordI 0x08 rd rs1 imm) (.ldb rd rs1 imm) s rd ea 1 (fun b => (b 0).signExtend 32) ∧
    LoadsBytes (wordI 0x09 rd rs1 imm) (.ldbu rd rs1 imm) s rd ea 1 (fun b => BitVec.ofNat 32 (b 0).toNat) ∧
    LoadsBytes (wordI 0x0A rd rs1 imm) (.ldh rd rs1 imm) s rd ea 2 (fun b => (b 0 ++ b 1).signExtend 32) ∧
    LoadsBytes (wordI 0x0B rd rs1 imm) (.ldhu rd rs1 imm) s rd ea 2 (fun b => BitVec.ofNat 32 ((b 0).toNat * 256 + (b 1).toNat)) ∧
    LoadsBytes (wordI 0x0C rd rs1 imm) (.ldw rd rs1 imm) s rd ea 4 (fun b => b 0 ++ b 1 ++ b 2 ++ b 3)

/-- 45_loadstore.md R327: rd when the first word has been read, rd+1 when the second has; a fault in the second word leaves rd written
and rd+1 unchanged. -/
def Obligations.LoadDouble : Prop :=
  ∀ (rd rs1 : RegIdx) (imm : BitVec 16) (s : State) (b : Nat → Byte),
    let ea := s.reg rs1 + BitVec.ofInt 32 imm.toInt
    let w := wordI 0x0D rd rs1 imm
    (BytesRead s ea 8 b → Runs w (.ldd rd rs1 imm) s (fun t => t.reg rd = b 0 ++ b 1 ++ b 2 ++ b 3 ∧
      t.reg (rd + 1) = b 4 ++ b 5 ++ b 6 ++ b 7 ∧ Frame s t [rd, rd + 1] s.cr0 (s.pc + 4))) ∧
    (∀ m e, 4 ≤ m → m < 8 → BytesRead s ea m b → readByte s (ea + BitVec.ofNat 32 m) = .error e →
      Runs w (.ldd rd rs1 imm) s (fun t => t.reg rd = b 0 ++ b 1 ++ b 2 ++ b 3 ∧
        Frame s t [rd] (s.cr0 ||| faultBit e) (s.pc + 4))) ∧
    (∀ m e, m < 4 → BytesRead s ea m b → readByte s (ea + BitVec.ofNat 32 m) = .error e →
      Runs w (.ldd rd rs1 imm) s (fun t => Frame s t [] (s.cr0 ||| faultBit e) (s.pc + 4)))

/-- 45_loadstore.md R328-R332: the low bytes of the data register (the pair, for std) at x[rs1] + simm16, most significant first, one
byte after the other; a store stops at the first byte that fails, keeps the bytes before it and sets that byte's one flag. -/
def Obligations.StoresByteByByte : Prop :=
  ∀ (rs rs1 : RegIdx) (imm : BitVec 16) (s : State),
    let ea := s.reg rs1 + BitVec.ofInt 32 imm.toInt
    let v := s.reg rs
    decode (wordI 0x10 rs rs1 imm) = .ok (.stb rs rs1 imm) ∧ decode (wordI 0x11 rs rs1 imm) = .ok (.sth rs rs1 imm) ∧
    decode (wordI 0x12 rs rs1 imm) = .ok (.stw rs rs1 imm) ∧ decode (wordI 0x13 rs rs1 imm) = .ok (.std rs rs1 imm) ∧
    StoresBytes (.stb rs rs1 imm) s ea 1 (bigEndianByte v 1) ∧
    StoresBytes (.sth rs rs1 imm) s ea 2 (bigEndianByte v 2) ∧
    StoresBytes (.stw rs rs1 imm) s ea 4 (bigEndianByte v 4) ∧
    StoresBytes (.std rs rs1 imm) s ea 8 (bigEndianByte (v ++ s.reg (rs + 1)) 8)

/-- 45_loadstore.md R328-R331, 20_memory.md R64, R68: with the MMU off and the bytes in memory, the stored bytes, and the frame of the
four stores. -/
def Obligations.StoresWithMmuOff : Prop :=
  ∀ (rs rs1 : RegIdx) (imm : BitVec 16) (s : State),
    let ea := s.effectiveAddress rs1 imm
    let v := s.reg rs
    StoresAt (.stb rs rs1 imm) s ea 1 (bigEndianByte v 1) ∧ StoresAt (.sth rs rs1 imm) s ea 2 (bigEndianByte v 2) ∧
    StoresAt (.stw rs rs1 imm) s ea 4 (bigEndianByte v 4) ∧
    StoresAt (.std rs rs1 imm) s ea 8 (bigEndianByte (v ++ s.reg (rs + 1)) 8)

/-- 45_loadstore.md R328-R332, 20_memory.md R71: whatever the translation and the fault, a byte of memory that no byte of the store is
translated to reads as before. The address of byte k is translated in the state the k bytes before it left. -/
def Obligations.StoresChangeOnlyTranslatedBytes : Prop :=
  ∀ (rs rs1 : RegIdx) (imm : BitVec 16) (s t : State) (a : Nat),
    let ea := s.effectiveAddress rs1 imm
    let untouched := fun (bytes : List Byte) => ∀ k < bytes.length, ∀ pa,
      translate (memWrite s ea (bytes.take k)).1 (ea + BitVec.ofNat 32 k) .write = .ok pa → a ≠ pa.toNat
    (exec (.stb rs rs1 imm) s = .next t → untouched (bytesOf 1 (s.reg rs)) → t.mem.read a = s.mem.read a) ∧
    (exec (.sth rs rs1 imm) s = .next t → untouched (bytesOf 2 (s.reg rs)) → t.mem.read a = s.mem.read a) ∧
    (exec (.stw rs rs1 imm) s = .next t → untouched (bytesOf 4 (s.reg rs)) → t.mem.read a = s.mem.read a) ∧
    (exec (.std rs rs1 imm) s = .next t → untouched (bytesOf 4 (s.reg rs) ++ bytesOf 4 (s.reg (rs + 1))) →
      t.mem.read a = s.mem.read a)

/-- 45_loadstore.md R333: a store and then a load at the same address give the stored value back, extended as the load extends: with the
MMU off, where no byte lies beyond memory, and with the MMU on, on valid writable pages. R333 gives as its reason that "every byte is
translated the same way for the store and the load"; a store into a page-table entry of its own access is therefore left out (20_memory.md
R69). -/
def Obligations.StoreThenLoadReturnsValue : Prop :=
  ∀ (rs rd rs1 : RegIdx) (imm : BitVec 16) (s : State),
    let ea := s.effectiveAddress rs1 imm
    let v := s.reg rs
    let trip := fun (store load : Instr) (value : State → Prop) =>
      ∃ t u, exec store s = .next t ∧ exec load t = .next u ∧ value u ∧ u.cr0 = s.cr0
    (Accessible s ea 1 → trip (.stb rs rs1 imm) (.ldb rd rs1 imm) (fun u => u.reg rd = (v.setWidth 8).signExtend 32)) ∧
    (Accessible s ea 1 → trip (.stb rs rs1 imm) (.ldbu rd rs1 imm) (fun u => (u.reg rd).toNat = v.toNat % 256)) ∧
    (Accessible s ea 2 → trip (.sth rs rs1 imm) (.ldh rd rs1 imm) (fun u => u.reg rd = (v.setWidth 16).signExtend 32)) ∧
    (Accessible s ea 2 → trip (.sth rs rs1 imm) (.ldhu rd rs1 imm) (fun u => (u.reg rd).toNat = v.toNat % 65536)) ∧
    (Accessible s ea 4 → trip (.stw rs rs1 imm) (.ldw rd rs1 imm) (fun u => u.reg rd = v)) ∧
    (Accessible s ea 8 → trip (.std rs rs1 imm) (.ldd rd rs1 imm) (fun u => u.reg rd = v ∧ u.reg (rd + 1) = s.reg (rs + 1)))
end

