-- ==== Sys2Proof/Laws/Memory.lean ====
section
/-! SUPPORT. Memory as data: a read after a write, and the canonical form, which every operation of memory keeps. -/

namespace Sys2Proof.Machine

open Sys2Proof

theorem insertCell_read (m : Memory) (a x : Nat) (b : Byte) (fresh : ∀ c ∈ m, c.1 ≠ a) :
    (m.insertCell (a, b)).read x = if x = a then b else m.read x := by
  induction m with
  | nil => simp [Memory.insertCell, Memory.read, eq_comm]
  | cons d m ih =>
    have hd : d.1 ≠ a := fresh d (by simp)
    have ih := ih (fun c hc => fresh c (by simp [hc]))
    simp only [Memory.insertCell]
    split
    · simp [Memory.read, eq_comm]
    · simp only [Memory.read, ih]
      by_cases h : d.1 = x
      · subst h; simp [hd]
      · simp [h]

theorem filter_read (m : Memory) (a x : Nat) :
    Memory.read (m.filter (fun c => c.1 != a)) x = if x = a then 0 else m.read x := by
  induction m with
  | nil => simp [Memory.read]
  | cons d m ih =>
    simp only [List.filter_cons]
    by_cases hd : d.1 = a
    · simp only [hd, bne_self_eq_false, Bool.false_eq_true, if_false, ih, Memory.read]
      by_cases hx : x = a
      · simp [hx]
      · simp [hx, Ne.symm hx]
    · have : (d.1 != a) = true := by simpa using hd
      simp only [this, if_true, Memory.read, ih]
      by_cases hx : d.1 = x
      · subst hx; simp [hd]
      · simp [hx]

/-- A byte read after a byte is written, in any memory. -/
theorem write_read (m : Memory) (a x : Nat) (b : Byte) : (m.write a b).read x = if x = a then b else m.read x := by
  unfold Memory.write
  split
  · rename_i h; simp [filter_read, h]
  · rw [insertCell_read]
    · rw [filter_read]; split <;> simp_all
    · intro c hc; simpa using (List.mem_filter.mp hc).2

@[simp] theorem write_read_same (m : Memory) (a : Nat) (b : Byte) : (m.write a b).read a = b := by simp [write_read]

@[simp] theorem write_read_other (m : Memory) {a x : Nat} (h : x ≠ a) (b : Byte) : (m.write a b).read x = m.read x := by
  simp [write_read, h]

theorem mem_insertCell (m : Memory) (c d : Host.Cell) : d ∈ m.insertCell c ↔ d = c ∨ d ∈ m := by
  induction m with
  | nil => simp [Memory.insertCell]
  | cons e m ih =>
    simp only [Memory.insertCell]
    split
    · simp
    · simp only [List.mem_cons, ih]; tauto

/-- Every cell of a written memory is the written one or was there before, at another address. -/
theorem mem_write (m : Memory) (a : Nat) (b : Byte) (d : Host.Cell) (h : d ∈ m.write a b) :
    (d = (a, b) ∧ b ≠ 0) ∨ (d ∈ m ∧ d.1 ≠ a) := by
  unfold Memory.write at h
  split at h
  · right; simpa using h
  · rename_i hb
    rcases (mem_insertCell _ _ _).mp h with h | h
    · exact .inl ⟨h, hb⟩
    · right; simpa using h

theorem insertCell_pairwise (m : Memory) (c : Host.Cell) (h : m.Pairwise (fun c d => c.1 < d.1))
    (fresh : ∀ d ∈ m, d.1 ≠ c.1) : (m.insertCell c).Pairwise (fun c d => c.1 < d.1) := by
  induction m with
  | nil => simp [Memory.insertCell]
  | cons e m ih =>
    rw [List.pairwise_cons] at h
    have he : e.1 ≠ c.1 := fresh e (by simp)
    simp only [Memory.insertCell]
    split
    · rename_i hlt
      refine List.pairwise_cons.mpr ⟨?_, List.pairwise_cons.mpr h⟩
      intro d hd
      rcases List.mem_cons.mp hd with rfl | hd
      · exact hlt
      · exact lt_trans hlt (h.1 d hd)
    · refine List.pairwise_cons.mpr ⟨?_, ih h.2 (fun d hd => fresh d (by simp [hd]))⟩
      intro d hd
      rcases (mem_insertCell _ _ _).mp hd with rfl | hd
      · omega
      · exact h.1 d hd

/-- A write keeps the canonical form. -/
theorem write_wf (m : Memory) (a : Nat) (b : Byte) (h : m.wf) : (m.write a b).wf := by
  refine ⟨?_, ?_⟩
  · unfold Memory.write
    split
    · exact h.1.filter _
    · refine insertCell_pairwise _ _ (h.1.filter _) ?_
      intro d hd; simpa using (List.mem_filter.mp hd).2
  · intro d hd
    rcases mem_write m a b d hd with ⟨rfl, hb⟩ | ⟨hd, -⟩
    · exact hb
    · exact h.2 d hd

/-- A write within the size keeps every address within it. -/
theorem write_in_range (m : Memory) (a n : Nat) (b : Byte) (ha : a < n) (h : ∀ c ∈ m, c.1 < n) :
    ∀ c ∈ m.write a b, c.1 < n := by
  intro c hc
  rcases mem_write m a b c hc with ⟨rfl, -⟩ | ⟨hc, -⟩
  · exact ha
  · exact h c hc

/-- Memory right after reset is in canonical form. -/
theorem reset_memory_wf : State.reset.mem.wf := ⟨.nil, fun _ h => absurd h List.not_mem_nil⟩

end Sys2Proof.Machine
end

