-- ==== Sys2Proof/Laws/State.lean ====
section
/-! SUPPORT. What each update of the state does to each field, one lemma per field and update, and to the registers. -/

namespace Sys2Proof.Machine

open Sys2Proof

variable (s : State)

/-! ### setReg -/

@[simp] theorem setReg_regs (r : RegIdx) (v : Word) : (s.setReg r v).regs = s.regs.set r.toNat v r.isLt := rfl
@[simp] theorem setReg_pc (r : RegIdx) (v : Word) : (s.setReg r v).pc = s.pc := rfl
@[simp] theorem setReg_nip (r : RegIdx) (v : Word) : (s.setReg r v).nip = s.nip := rfl
@[simp] theorem setReg_fip (r : RegIdx) (v : Word) : (s.setReg r v).fip = s.fip := rfl
@[simp] theorem setReg_sxip (r : RegIdx) (v : Word) : (s.setReg r v).sxip = s.sxip := rfl
@[simp] theorem setReg_snip (r : RegIdx) (v : Word) : (s.setReg r v).snip = s.snip := rfl
@[simp] theorem setReg_sfip (r : RegIdx) (v : Word) : (s.setReg r v).sfip = s.sfip := rfl
@[simp] theorem setReg_cr0 (r : RegIdx) (v : Word) : (s.setReg r v).cr0 = s.cr0 := rfl
@[simp] theorem setReg_tvec (r : RegIdx) (v : Word) : (s.setReg r v).tvec = s.tvec := rfl
@[simp] theorem setReg_ptb (r : RegIdx) (v : Word) : (s.setReg r v).ptb = s.ptb := rfl
@[simp] theorem setReg_mmuEn (r : RegIdx) (v : Word) : (s.setReg r v).mmuEn = s.mmuEn := rfl
@[simp] theorem setReg_priv (r : RegIdx) (v : Word) : (s.setReg r v).priv = s.priv := rfl
@[simp] theorem setReg_run (r : RegIdx) (v : Word) : (s.setReg r v).run = s.run := rfl
@[simp] theorem setReg_mem (r : RegIdx) (v : Word) : (s.setReg r v).mem = s.mem := rfl
@[simp] theorem setReg_memSize (r : RegIdx) (v : Word) : (s.setReg r v).memSize = s.memSize := rfl
@[simp] theorem setReg_freeCount (r : RegIdx) (v : Word) : (s.setReg r v).freeCount = s.freeCount := rfl

/-- A register read after a register is written. -/
theorem setReg_reg (r : RegIdx) (v : Word) (i : RegIdx) : (s.setReg r v).reg i = if i = r then v else s.reg i := by
  simp only [State.setReg, State.reg, Vector.getElem_set]
  by_cases h : i = r
  · simp [h]
  · have : ¬ r.toNat = i.toNat := fun e => h (BitVec.eq_of_toNat_eq e.symm)
    simp [h, this]

@[simp] theorem setReg_reg_same (r : RegIdx) (v : Word) : (s.setReg r v).reg r = v := by simp [setReg_reg]

@[simp] theorem setReg_reg_other {r i : RegIdx} (h : i ≠ r) (v : Word) : (s.setReg r v).reg i = s.reg i := by
  simp [setReg_reg, h]

/-! ### setPair -/

@[simp] theorem setPair_pc (r : RegIdx) (a b : Word) : (s.setPair r a b).pc = s.pc := rfl
@[simp] theorem setPair_nip (r : RegIdx) (a b : Word) : (s.setPair r a b).nip = s.nip := rfl
@[simp] theorem setPair_fip (r : RegIdx) (a b : Word) : (s.setPair r a b).fip = s.fip := rfl
@[simp] theorem setPair_sxip (r : RegIdx) (a b : Word) : (s.setPair r a b).sxip = s.sxip := rfl
@[simp] theorem setPair_snip (r : RegIdx) (a b : Word) : (s.setPair r a b).snip = s.snip := rfl
@[simp] theorem setPair_sfip (r : RegIdx) (a b : Word) : (s.setPair r a b).sfip = s.sfip := rfl
@[simp] theorem setPair_cr0 (r : RegIdx) (a b : Word) : (s.setPair r a b).cr0 = s.cr0 := rfl
@[simp] theorem setPair_tvec (r : RegIdx) (a b : Word) : (s.setPair r a b).tvec = s.tvec := rfl
@[simp] theorem setPair_ptb (r : RegIdx) (a b : Word) : (s.setPair r a b).ptb = s.ptb := rfl
@[simp] theorem setPair_mmuEn (r : RegIdx) (a b : Word) : (s.setPair r a b).mmuEn = s.mmuEn := rfl
@[simp] theorem setPair_priv (r : RegIdx) (a b : Word) : (s.setPair r a b).priv = s.priv := rfl
@[simp] theorem setPair_run (r : RegIdx) (a b : Word) : (s.setPair r a b).run = s.run := rfl
@[simp] theorem setPair_mem (r : RegIdx) (a b : Word) : (s.setPair r a b).mem = s.mem := rfl
@[simp] theorem setPair_memSize (r : RegIdx) (a b : Word) : (s.setPair r a b).memSize = s.memSize := rfl
@[simp] theorem setPair_freeCount (r : RegIdx) (a b : Word) : (s.setPair r a b).freeCount = s.freeCount := rfl

/-- A register read after a pair is written. -/
theorem setPair_reg (r : RegIdx) (a b : Word) (i : RegIdx) :
    (s.setPair r a b).reg i = if i = r + 1 then b else if i = r then a else s.reg i := by
  simp only [State.setPair, setReg_reg]

/-! ### setQuad -/

@[simp] theorem setQuad_pc (r : RegIdx) (q : Quad) : (s.setQuad r q).pc = s.pc := rfl
@[simp] theorem setQuad_nip (r : RegIdx) (q : Quad) : (s.setQuad r q).nip = s.nip := rfl
@[simp] theorem setQuad_fip (r : RegIdx) (q : Quad) : (s.setQuad r q).fip = s.fip := rfl
@[simp] theorem setQuad_sxip (r : RegIdx) (q : Quad) : (s.setQuad r q).sxip = s.sxip := rfl
@[simp] theorem setQuad_snip (r : RegIdx) (q : Quad) : (s.setQuad r q).snip = s.snip := rfl
@[simp] theorem setQuad_sfip (r : RegIdx) (q : Quad) : (s.setQuad r q).sfip = s.sfip := rfl
@[simp] theorem setQuad_cr0 (r : RegIdx) (q : Quad) : (s.setQuad r q).cr0 = s.cr0 := rfl
@[simp] theorem setQuad_tvec (r : RegIdx) (q : Quad) : (s.setQuad r q).tvec = s.tvec := rfl
@[simp] theorem setQuad_ptb (r : RegIdx) (q : Quad) : (s.setQuad r q).ptb = s.ptb := rfl
@[simp] theorem setQuad_mmuEn (r : RegIdx) (q : Quad) : (s.setQuad r q).mmuEn = s.mmuEn := rfl
@[simp] theorem setQuad_priv (r : RegIdx) (q : Quad) : (s.setQuad r q).priv = s.priv := rfl
@[simp] theorem setQuad_run (r : RegIdx) (q : Quad) : (s.setQuad r q).run = s.run := rfl
@[simp] theorem setQuad_mem (r : RegIdx) (q : Quad) : (s.setQuad r q).mem = s.mem := rfl
@[simp] theorem setQuad_memSize (r : RegIdx) (q : Quad) : (s.setQuad r q).memSize = s.memSize := rfl
@[simp] theorem setQuad_freeCount (r : RegIdx) (q : Quad) : (s.setQuad r q).freeCount = s.freeCount := rfl

/-- A register read after a quad is written. -/
theorem setQuad_reg (r : RegIdx) (q : Quad) (i : RegIdx) :
    (s.setQuad r q).reg i =
      if i = r + 3 then q.lane3 else if i = r + 2 then q.lane2 else if i = r + 1 then q.lane1 else if i = r then q.lane0
      else s.reg i := by
  simp only [State.setQuad, setReg_reg]

/-! ### setFlag -/

@[simp] theorem setFlag_regs (f : Flag) : (s.setFlag f).regs = s.regs := rfl
@[simp] theorem setFlag_pc (f : Flag) : (s.setFlag f).pc = s.pc := rfl
@[simp] theorem setFlag_nip (f : Flag) : (s.setFlag f).nip = s.nip := rfl
@[simp] theorem setFlag_fip (f : Flag) : (s.setFlag f).fip = s.fip := rfl
@[simp] theorem setFlag_sxip (f : Flag) : (s.setFlag f).sxip = s.sxip := rfl
@[simp] theorem setFlag_snip (f : Flag) : (s.setFlag f).snip = s.snip := rfl
@[simp] theorem setFlag_sfip (f : Flag) : (s.setFlag f).sfip = s.sfip := rfl
@[simp] theorem setFlag_cr0 (f : Flag) : (s.setFlag f).cr0 = s.cr0 ||| f.mask := rfl
@[simp] theorem setFlag_tvec (f : Flag) : (s.setFlag f).tvec = s.tvec := rfl
@[simp] theorem setFlag_ptb (f : Flag) : (s.setFlag f).ptb = s.ptb := rfl
@[simp] theorem setFlag_mmuEn (f : Flag) : (s.setFlag f).mmuEn = s.mmuEn := rfl
@[simp] theorem setFlag_priv (f : Flag) : (s.setFlag f).priv = s.priv := rfl
@[simp] theorem setFlag_run (f : Flag) : (s.setFlag f).run = s.run := rfl
@[simp] theorem setFlag_mem (f : Flag) : (s.setFlag f).mem = s.mem := rfl
@[simp] theorem setFlag_memSize (f : Flag) : (s.setFlag f).memSize = s.memSize := rfl
@[simp] theorem setFlag_freeCount (f : Flag) : (s.setFlag f).freeCount = s.freeCount := rfl
@[simp] theorem setFlag_reg (f : Flag) (i : RegIdx) : (s.setFlag f).reg i = s.reg i := rfl

/-! ### setFlagIf -/

@[simp] theorem setFlagIf_regs (c : Bool) (f : Flag) : (s.setFlagIf c f).regs = s.regs := by unfold State.setFlagIf; split <;> rfl
@[simp] theorem setFlagIf_pc (c : Bool) (f : Flag) : (s.setFlagIf c f).pc = s.pc := by unfold State.setFlagIf; split <;> rfl
@[simp] theorem setFlagIf_nip (c : Bool) (f : Flag) : (s.setFlagIf c f).nip = s.nip := by unfold State.setFlagIf; split <;> rfl
@[simp] theorem setFlagIf_fip (c : Bool) (f : Flag) : (s.setFlagIf c f).fip = s.fip := by unfold State.setFlagIf; split <;> rfl
@[simp] theorem setFlagIf_sxip (c : Bool) (f : Flag) : (s.setFlagIf c f).sxip = s.sxip := by unfold State.setFlagIf; split <;> rfl
@[simp] theorem setFlagIf_snip (c : Bool) (f : Flag) : (s.setFlagIf c f).snip = s.snip := by unfold State.setFlagIf; split <;> rfl
@[simp] theorem setFlagIf_sfip (c : Bool) (f : Flag) : (s.setFlagIf c f).sfip = s.sfip := by unfold State.setFlagIf; split <;> rfl
@[simp] theorem setFlagIf_cr0 (c : Bool) (f : Flag) : (s.setFlagIf c f).cr0 = if c then s.cr0 ||| f.mask else s.cr0 := by unfold State.setFlagIf; split <;> rfl
@[simp] theorem setFlagIf_tvec (c : Bool) (f : Flag) : (s.setFlagIf c f).tvec = s.tvec := by unfold State.setFlagIf; split <;> rfl
@[simp] theorem setFlagIf_ptb (c : Bool) (f : Flag) : (s.setFlagIf c f).ptb = s.ptb := by unfold State.setFlagIf; split <;> rfl
@[simp] theorem setFlagIf_mmuEn (c : Bool) (f : Flag) : (s.setFlagIf c f).mmuEn = s.mmuEn := by unfold State.setFlagIf; split <;> rfl
@[simp] theorem setFlagIf_priv (c : Bool) (f : Flag) : (s.setFlagIf c f).priv = s.priv := by unfold State.setFlagIf; split <;> rfl
@[simp] theorem setFlagIf_run (c : Bool) (f : Flag) : (s.setFlagIf c f).run = s.run := by unfold State.setFlagIf; split <;> rfl
@[simp] theorem setFlagIf_mem (c : Bool) (f : Flag) : (s.setFlagIf c f).mem = s.mem := by unfold State.setFlagIf; split <;> rfl
@[simp] theorem setFlagIf_memSize (c : Bool) (f : Flag) : (s.setFlagIf c f).memSize = s.memSize := by unfold State.setFlagIf; split <;> rfl
@[simp] theorem setFlagIf_freeCount (c : Bool) (f : Flag) : (s.setFlagIf c f).freeCount = s.freeCount := by unfold State.setFlagIf; split <;> rfl
@[simp] theorem setFlagIf_reg (c : Bool) (f : Flag) (i : RegIdx) : (s.setFlagIf c f).reg i = s.reg i := by unfold State.setFlagIf; split <;> rfl

@[simp] theorem setFlagIf_true (f : Flag) : s.setFlagIf true f = s.setFlag f := rfl

@[simp] theorem setFlagIf_false (f : Flag) : s.setFlagIf false f = s := rfl

/-! ### setRangeFlags -/

@[simp] theorem setRangeFlags_regs (a b r : Word) : (s.setRangeFlags a b r).regs = s.regs := by simp [State.setRangeFlags]
@[simp] theorem setRangeFlags_pc (a b r : Word) : (s.setRangeFlags a b r).pc = s.pc := by simp [State.setRangeFlags]
@[simp] theorem setRangeFlags_nip (a b r : Word) : (s.setRangeFlags a b r).nip = s.nip := by simp [State.setRangeFlags]
@[simp] theorem setRangeFlags_fip (a b r : Word) : (s.setRangeFlags a b r).fip = s.fip := by simp [State.setRangeFlags]
@[simp] theorem setRangeFlags_sxip (a b r : Word) : (s.setRangeFlags a b r).sxip = s.sxip := by simp [State.setRangeFlags]
@[simp] theorem setRangeFlags_snip (a b r : Word) : (s.setRangeFlags a b r).snip = s.snip := by simp [State.setRangeFlags]
@[simp] theorem setRangeFlags_sfip (a b r : Word) : (s.setRangeFlags a b r).sfip = s.sfip := by simp [State.setRangeFlags]
@[simp] theorem setRangeFlags_tvec (a b r : Word) : (s.setRangeFlags a b r).tvec = s.tvec := by simp [State.setRangeFlags]
@[simp] theorem setRangeFlags_ptb (a b r : Word) : (s.setRangeFlags a b r).ptb = s.ptb := by simp [State.setRangeFlags]
@[simp] theorem setRangeFlags_mmuEn (a b r : Word) : (s.setRangeFlags a b r).mmuEn = s.mmuEn := by simp [State.setRangeFlags]
@[simp] theorem setRangeFlags_priv (a b r : Word) : (s.setRangeFlags a b r).priv = s.priv := by simp [State.setRangeFlags]
@[simp] theorem setRangeFlags_run (a b r : Word) : (s.setRangeFlags a b r).run = s.run := by simp [State.setRangeFlags]
@[simp] theorem setRangeFlags_mem (a b r : Word) : (s.setRangeFlags a b r).mem = s.mem := by simp [State.setRangeFlags]
@[simp] theorem setRangeFlags_memSize (a b r : Word) : (s.setRangeFlags a b r).memSize = s.memSize := by simp [State.setRangeFlags]
@[simp] theorem setRangeFlags_freeCount (a b r : Word) : (s.setRangeFlags a b r).freeCount = s.freeCount := by simp [State.setRangeFlags]
@[simp] theorem setRangeFlags_reg (a b r : Word) (i : RegIdx) : (s.setRangeFlags a b r).reg i = s.reg i := by simp [State.setRangeFlags]

/-! ### setIntCompare -/

@[simp] theorem setIntCompare_regs (e l g : Bool) : (s.setIntCompare e l g).regs = s.regs := rfl
@[simp] theorem setIntCompare_pc (e l g : Bool) : (s.setIntCompare e l g).pc = s.pc := rfl
@[simp] theorem setIntCompare_nip (e l g : Bool) : (s.setIntCompare e l g).nip = s.nip := rfl
@[simp] theorem setIntCompare_fip (e l g : Bool) : (s.setIntCompare e l g).fip = s.fip := rfl
@[simp] theorem setIntCompare_sxip (e l g : Bool) : (s.setIntCompare e l g).sxip = s.sxip := rfl
@[simp] theorem setIntCompare_snip (e l g : Bool) : (s.setIntCompare e l g).snip = s.snip := rfl
@[simp] theorem setIntCompare_sfip (e l g : Bool) : (s.setIntCompare e l g).sfip = s.sfip := rfl
@[simp] theorem setIntCompare_cr0 (e l g : Bool) : (s.setIntCompare e l g).cr0 = assignFlag (assignFlag (assignFlag s.cr0 .EQ e) .LT l) .GT g := rfl
@[simp] theorem setIntCompare_tvec (e l g : Bool) : (s.setIntCompare e l g).tvec = s.tvec := rfl
@[simp] theorem setIntCompare_ptb (e l g : Bool) : (s.setIntCompare e l g).ptb = s.ptb := rfl
@[simp] theorem setIntCompare_mmuEn (e l g : Bool) : (s.setIntCompare e l g).mmuEn = s.mmuEn := rfl
@[simp] theorem setIntCompare_priv (e l g : Bool) : (s.setIntCompare e l g).priv = s.priv := rfl
@[simp] theorem setIntCompare_run (e l g : Bool) : (s.setIntCompare e l g).run = s.run := rfl
@[simp] theorem setIntCompare_mem (e l g : Bool) : (s.setIntCompare e l g).mem = s.mem := rfl
@[simp] theorem setIntCompare_memSize (e l g : Bool) : (s.setIntCompare e l g).memSize = s.memSize := rfl
@[simp] theorem setIntCompare_freeCount (e l g : Bool) : (s.setIntCompare e l g).freeCount = s.freeCount := rfl
@[simp] theorem setIntCompare_reg (e l g : Bool) (i : RegIdx) : (s.setIntCompare e l g).reg i = s.reg i := rfl

/-! ### setFloatCompare -/

@[simp] theorem setFloatCompare_regs (f : Flag) : (s.setFloatCompare f).regs = s.regs := rfl
@[simp] theorem setFloatCompare_pc (f : Flag) : (s.setFloatCompare f).pc = s.pc := rfl
@[simp] theorem setFloatCompare_nip (f : Flag) : (s.setFloatCompare f).nip = s.nip := rfl
@[simp] theorem setFloatCompare_fip (f : Flag) : (s.setFloatCompare f).fip = s.fip := rfl
@[simp] theorem setFloatCompare_sxip (f : Flag) : (s.setFloatCompare f).sxip = s.sxip := rfl
@[simp] theorem setFloatCompare_snip (f : Flag) : (s.setFloatCompare f).snip = s.snip := rfl
@[simp] theorem setFloatCompare_sfip (f : Flag) : (s.setFloatCompare f).sfip = s.sfip := rfl
@[simp] theorem setFloatCompare_cr0 (f : Flag) : (s.setFloatCompare f).cr0 = (s.cr0 &&& ~~~floatCompareField) ||| f.mask := rfl
@[simp] theorem setFloatCompare_tvec (f : Flag) : (s.setFloatCompare f).tvec = s.tvec := rfl
@[simp] theorem setFloatCompare_ptb (f : Flag) : (s.setFloatCompare f).ptb = s.ptb := rfl
@[simp] theorem setFloatCompare_mmuEn (f : Flag) : (s.setFloatCompare f).mmuEn = s.mmuEn := rfl
@[simp] theorem setFloatCompare_priv (f : Flag) : (s.setFloatCompare f).priv = s.priv := rfl
@[simp] theorem setFloatCompare_run (f : Flag) : (s.setFloatCompare f).run = s.run := rfl
@[simp] theorem setFloatCompare_mem (f : Flag) : (s.setFloatCompare f).mem = s.mem := rfl
@[simp] theorem setFloatCompare_memSize (f : Flag) : (s.setFloatCompare f).memSize = s.memSize := rfl
@[simp] theorem setFloatCompare_freeCount (f : Flag) : (s.setFloatCompare f).freeCount = s.freeCount := rfl
@[simp] theorem setFloatCompare_reg (f : Flag) (i : RegIdx) : (s.setFloatCompare f).reg i = s.reg i := rfl

/-! ### writeCr0 -/

@[simp] theorem writeCr0_regs (v : Word) : (s.writeCr0 v).regs = s.regs := rfl
@[simp] theorem writeCr0_pc (v : Word) : (s.writeCr0 v).pc = s.pc := rfl
@[simp] theorem writeCr0_nip (v : Word) : (s.writeCr0 v).nip = s.nip := rfl
@[simp] theorem writeCr0_fip (v : Word) : (s.writeCr0 v).fip = s.fip := rfl
@[simp] theorem writeCr0_sxip (v : Word) : (s.writeCr0 v).sxip = s.sxip := rfl
@[simp] theorem writeCr0_snip (v : Word) : (s.writeCr0 v).snip = s.snip := rfl
@[simp] theorem writeCr0_sfip (v : Word) : (s.writeCr0 v).sfip = s.sfip := rfl
@[simp] theorem writeCr0_cr0 (v : Word) : (s.writeCr0 v).cr0 = v &&& cr0Defined := rfl
@[simp] theorem writeCr0_tvec (v : Word) : (s.writeCr0 v).tvec = s.tvec := rfl
@[simp] theorem writeCr0_ptb (v : Word) : (s.writeCr0 v).ptb = s.ptb := rfl
@[simp] theorem writeCr0_mmuEn (v : Word) : (s.writeCr0 v).mmuEn = s.mmuEn := rfl
@[simp] theorem writeCr0_priv (v : Word) : (s.writeCr0 v).priv = s.priv := rfl
@[simp] theorem writeCr0_run (v : Word) : (s.writeCr0 v).run = s.run := rfl
@[simp] theorem writeCr0_mem (v : Word) : (s.writeCr0 v).mem = s.mem := rfl
@[simp] theorem writeCr0_memSize (v : Word) : (s.writeCr0 v).memSize = s.memSize := rfl
@[simp] theorem writeCr0_freeCount (v : Word) : (s.writeCr0 v).freeCount = s.freeCount := rfl
@[simp] theorem writeCr0_reg (v : Word) (i : RegIdx) : (s.writeCr0 v).reg i = s.reg i := rfl

/-! ### advance -/

@[simp] theorem advance_regs : (s.advance).regs = s.regs := rfl
@[simp] theorem advance_pc : (s.advance).pc = s.pc + 4 := rfl
@[simp] theorem advance_nip : (s.advance).nip = s.nip := rfl
@[simp] theorem advance_fip : (s.advance).fip = s.fip := rfl
@[simp] theorem advance_sxip : (s.advance).sxip = s.sxip := rfl
@[simp] theorem advance_snip : (s.advance).snip = s.snip := rfl
@[simp] theorem advance_sfip : (s.advance).sfip = s.sfip := rfl
@[simp] theorem advance_cr0 : (s.advance).cr0 = s.cr0 := rfl
@[simp] theorem advance_tvec : (s.advance).tvec = s.tvec := rfl
@[simp] theorem advance_ptb : (s.advance).ptb = s.ptb := rfl
@[simp] theorem advance_mmuEn : (s.advance).mmuEn = s.mmuEn := rfl
@[simp] theorem advance_priv : (s.advance).priv = s.priv := rfl
@[simp] theorem advance_run : (s.advance).run = s.run := rfl
@[simp] theorem advance_mem : (s.advance).mem = s.mem := rfl
@[simp] theorem advance_memSize : (s.advance).memSize = s.memSize := rfl
@[simp] theorem advance_freeCount : (s.advance).freeCount = s.freeCount := rfl
@[simp] theorem advance_reg (i : RegIdx) : (s.advance).reg i = s.reg i := rfl

/-! ### redirect -/

@[simp] theorem redirect_regs (t : Word) : (s.redirect t).regs = s.regs := rfl
@[simp] theorem redirect_pc (t : Word) : (s.redirect t).pc = t := rfl
@[simp] theorem redirect_nip (t : Word) : (s.redirect t).nip = s.nip := rfl
@[simp] theorem redirect_fip (t : Word) : (s.redirect t).fip = s.fip := rfl
@[simp] theorem redirect_sxip (t : Word) : (s.redirect t).sxip = s.sxip := rfl
@[simp] theorem redirect_snip (t : Word) : (s.redirect t).snip = s.snip := rfl
@[simp] theorem redirect_sfip (t : Word) : (s.redirect t).sfip = s.sfip := rfl
@[simp] theorem redirect_cr0 (t : Word) : (s.redirect t).cr0 = s.cr0 := rfl
@[simp] theorem redirect_tvec (t : Word) : (s.redirect t).tvec = s.tvec := rfl
@[simp] theorem redirect_ptb (t : Word) : (s.redirect t).ptb = s.ptb := rfl
@[simp] theorem redirect_mmuEn (t : Word) : (s.redirect t).mmuEn = s.mmuEn := rfl
@[simp] theorem redirect_priv (t : Word) : (s.redirect t).priv = s.priv := rfl
@[simp] theorem redirect_run (t : Word) : (s.redirect t).run = s.run := rfl
@[simp] theorem redirect_mem (t : Word) : (s.redirect t).mem = s.mem := rfl
@[simp] theorem redirect_memSize (t : Word) : (s.redirect t).memSize = s.memSize := rfl
@[simp] theorem redirect_freeCount (t : Word) : (s.redirect t).freeCount = s.freeCount := rfl
@[simp] theorem redirect_reg (t : Word) (i : RegIdx) : (s.redirect t).reg i = s.reg i := rfl

/-! ### takeException -/

@[simp] theorem takeException_regs (f : Flag) : (s.takeException f).regs = s.regs := rfl
@[simp] theorem takeException_pc (f : Flag) : (s.takeException f).pc = s.pc + 4 := rfl
@[simp] theorem takeException_nip (f : Flag) : (s.takeException f).nip = s.nip := rfl
@[simp] theorem takeException_fip (f : Flag) : (s.takeException f).fip = s.fip := rfl
@[simp] theorem takeException_sxip (f : Flag) : (s.takeException f).sxip = s.sxip := rfl
@[simp] theorem takeException_snip (f : Flag) : (s.takeException f).snip = s.snip := rfl
@[simp] theorem takeException_sfip (f : Flag) : (s.takeException f).sfip = s.sfip := rfl
@[simp] theorem takeException_cr0 (f : Flag) : (s.takeException f).cr0 = s.cr0 ||| f.mask := rfl
@[simp] theorem takeException_tvec (f : Flag) : (s.takeException f).tvec = s.tvec := rfl
@[simp] theorem takeException_ptb (f : Flag) : (s.takeException f).ptb = s.ptb := rfl
@[simp] theorem takeException_mmuEn (f : Flag) : (s.takeException f).mmuEn = s.mmuEn := rfl
@[simp] theorem takeException_priv (f : Flag) : (s.takeException f).priv = s.priv := rfl
@[simp] theorem takeException_run (f : Flag) : (s.takeException f).run = s.run := rfl
@[simp] theorem takeException_mem (f : Flag) : (s.takeException f).mem = s.mem := rfl
@[simp] theorem takeException_memSize (f : Flag) : (s.takeException f).memSize = s.memSize := rfl
@[simp] theorem takeException_freeCount (f : Flag) : (s.takeException f).freeCount = s.freeCount := rfl
@[simp] theorem takeException_reg (f : Flag) (i : RegIdx) : (s.takeException f).reg i = s.reg i := rfl

/-! ### returnFromException -/

@[simp] theorem returnFromException_regs : (s.returnFromException).regs = s.regs := rfl
@[simp] theorem returnFromException_pc : (s.returnFromException).pc = s.sxip := rfl
@[simp] theorem returnFromException_nip : (s.returnFromException).nip = s.snip := rfl
@[simp] theorem returnFromException_fip : (s.returnFromException).fip = s.sfip := rfl
@[simp] theorem returnFromException_sxip : (s.returnFromException).sxip = s.sxip := rfl
@[simp] theorem returnFromException_snip : (s.returnFromException).snip = s.snip := rfl
@[simp] theorem returnFromException_sfip : (s.returnFromException).sfip = s.sfip := rfl
@[simp] theorem returnFromException_cr0 : (s.returnFromException).cr0 = s.cr0 := rfl
@[simp] theorem returnFromException_tvec : (s.returnFromException).tvec = s.tvec := rfl
@[simp] theorem returnFromException_ptb : (s.returnFromException).ptb = s.ptb := rfl
@[simp] theorem returnFromException_mmuEn : (s.returnFromException).mmuEn = s.mmuEn := rfl
@[simp] theorem returnFromException_priv : (s.returnFromException).priv = s.priv := rfl
@[simp] theorem returnFromException_run : (s.returnFromException).run = s.run := rfl
@[simp] theorem returnFromException_mem : (s.returnFromException).mem = s.mem := rfl
@[simp] theorem returnFromException_memSize : (s.returnFromException).memSize = s.memSize := rfl
@[simp] theorem returnFromException_freeCount : (s.returnFromException).freeCount = s.freeCount := rfl
@[simp] theorem returnFromException_reg (i : RegIdx) : (s.returnFromException).reg i = s.reg i := rfl

/-! ### halt -/

@[simp] theorem halt_regs (r : HaltReason) : (s.halt r).regs = s.regs := rfl
@[simp] theorem halt_pc (r : HaltReason) : (s.halt r).pc = s.pc := rfl
@[simp] theorem halt_nip (r : HaltReason) : (s.halt r).nip = s.nip := rfl
@[simp] theorem halt_fip (r : HaltReason) : (s.halt r).fip = s.fip := rfl
@[simp] theorem halt_sxip (r : HaltReason) : (s.halt r).sxip = s.sxip := rfl
@[simp] theorem halt_snip (r : HaltReason) : (s.halt r).snip = s.snip := rfl
@[simp] theorem halt_sfip (r : HaltReason) : (s.halt r).sfip = s.sfip := rfl
@[simp] theorem halt_cr0 (r : HaltReason) : (s.halt r).cr0 = s.cr0 ||| r.flag.mask := rfl
@[simp] theorem halt_tvec (r : HaltReason) : (s.halt r).tvec = s.tvec := rfl
@[simp] theorem halt_ptb (r : HaltReason) : (s.halt r).ptb = s.ptb := rfl
@[simp] theorem halt_mmuEn (r : HaltReason) : (s.halt r).mmuEn = s.mmuEn := rfl
@[simp] theorem halt_priv (r : HaltReason) : (s.halt r).priv = s.priv := rfl
@[simp] theorem halt_run (r : HaltReason) : (s.halt r).run = .halted r := rfl
@[simp] theorem halt_mem (r : HaltReason) : (s.halt r).mem = s.mem := rfl
@[simp] theorem halt_memSize (r : HaltReason) : (s.halt r).memSize = s.memSize := rfl
@[simp] theorem halt_freeCount (r : HaltReason) : (s.halt r).freeCount = s.freeCount := rfl
@[simp] theorem halt_reg (r : HaltReason) (i : RegIdx) : (s.halt r).reg i = s.reg i := rfl

/-! ### drawFree -/

@[simp] theorem drawFree_value : s.drawFree.1 = Config.freeWord s.freeCount := rfl

@[simp] theorem drawFree_state : s.drawFree.2 = { s with freeCount := s.freeCount + 1 } := rfl

@[simp] theorem drawFree_reg (n : Nat) (i : RegIdx) : ({ s with freeCount := n } : State).reg i = s.reg i := rfl

/-! ### Reads of reset -/

@[simp] theorem resetWith_reg (n : Nat) (i : RegIdx) : (State.resetWith n).reg i = 0 := by
  simp [State.resetWith, State.reg]

end Sys2Proof.Machine
end

