-- ==== Sys2Proof/Laws/Ops.lean ====
section
/-! SUPPORT. What each shared operation can do, once: if it answers a next state, which one. The proofs about instructions cite these
and do not unfold the operations. -/

namespace Sys2Proof.Machine

open Sys2Proof

/-! ## The ends of an instruction -/

@[simp] theorem finish_next (s t : State) : finish s = .next t ↔ t = s.advance := by
  simp [finish, eq_comm]

@[simp] theorem writeBack_next (rd : RegIdx) (v : Word) (s t : State) :
    writeBack rd v s = .next t ↔ t = (s.setReg rd v).advance := by
  simp [writeBack]

theorem divideInto_next (f : Word → Word → Word) (rd rs1 rs2 : RegIdx) (s t : State) :
    divideInto f rd rs1 rs2 s = .next t ↔
      t = ((s.setFlagIf (s.reg rs2 == 0) .DZ).setReg rd (f (s.reg rs1) (s.reg rs2))).advance := by
  simp [divideInto]

theorem writeProduct_next (rd : RegIdx) (p : BitVec 64) (s t : State) :
    writeProduct rd p s = .next t ↔ t = (s.setPair rd (p.extractLsb' 32 32) (p.extractLsb' 0 32)).advance := by
  simp [writeProduct]

theorem floatLanes_next (f : Word → Word → Word) (rd rs1 rs2 : RegIdx) (s t : State) :
    floatLanes f rd rs1 rs2 s = .next t ↔
      t = ((s.setFlagIf ((Quad.map2 f (s.quad rs1) (s.quad rs2)).any isNaN) .NV).setQuad rd
        (Quad.map2 f (s.quad rs1) (s.quad rs2))).advance := by
  simp [floatLanes]

theorem branchWhen_next (taken : Bool) (off : BitVec 16) (s t : State) :
    branchWhen taken off s = .next t ↔
      (taken = true ∧ t = s.redirect (s.branchTarget off)) ∨ (taken = false ∧ t = s.advance) := by
  cases taken
  · simp [branchWhen]
  · simp [branchWhen, eq_comm]

/-- A supervisor-only instruction: the exception in User mode, the effect in Supervisor mode. -/
theorem supervisorOnly_next (s e t : State) :
    supervisorOnly s e = .next t ↔
      (s.priv = .user ∧ t = s.takeException .PRV) ∨ (s.priv = .supervisor ∧ t = e) := by
  unfold supervisorOnly
  cases s.priv <;> simp [eq_comm]

/-! ## Physical memory -/

theorem physRead8_ok (s : State) (pa : Word) (b : Byte) :
    physRead8 s pa = .ok b ↔ pa.toNat < s.memSize ∧ b = s.mem.read pa.toNat := by
  unfold physRead8; split <;> simp_all [eq_comm]

theorem physRead8_error (s : State) (pa : Word) (e : MemFault) :
    physRead8 s pa = .error e ↔ s.memSize ≤ pa.toNat ∧ e = .addrError := by
  unfold physRead8; split
  · simp; omega
  · simp [eq_comm]; omega

theorem physWrite8_ok (s : State) (pa : Word) (b : Byte) (t : State) :
    physWrite8 s pa b = .ok t ↔ pa.toNat < s.memSize ∧ t = { s with mem := s.mem.write pa.toNat b } := by
  unfold physWrite8; split <;> simp_all [eq_comm]

theorem physWrite8_error (s : State) (pa : Word) (b : Byte) (e : MemFault) :
    physWrite8 s pa b = .error e ↔ s.memSize ≤ pa.toNat ∧ e = .addrError := by
  unfold physWrite8; split
  · simp; omega
  · simp [eq_comm]; omega

/-- The only fault of the walker's read. -/
theorem physReadWord_error (s : State) (pa : Word) (e : MemFault) (h : physReadWord s pa = .error e) : e = .addrError := by
  unfold physReadWord physRead8 at h
  simp only [bind, Except.bind, pure, Except.pure] at h
  split at h
  · rename_i h1; split at h1 <;> simp_all
  · split at h
    · rename_i h1; split at h1 <;> simp_all
    · split at h
      · rename_i h1; split at h1 <;> simp_all
      · split at h
        · rename_i h1; split at h1 <;> simp_all
        · simp at h

/-! ## Translation -/

@[simp] theorem translate_off {s : State} (h : s.mmuEn = false) (va : Word) (acc : Access) : translate s va acc = .ok va := by
  simp [translate, h]

theorem translate_on {s : State} (h : s.mmuEn = true) (va : Word) (acc : Access) :
    translate s va acc = (physReadWord s (pteAddress s.ptb va)).bind (fun pte => checkPte pte s.priv va acc) := by
  unfold translate
  cases hp : physReadWord s (pteAddress s.ptb va) <;> simp [h, Except.bind]

/-- A Read access never gives WriteProtect (20_memory.md R67). -/
theorem translate_read_ne_writeProtect (s : State) (va : Word) : translate s va .read ≠ .error .writeProtect := by
  unfold translate
  split
  · split
    · rename_i e he
      rw [physReadWord_error s _ e he]; simp
    · unfold checkPte; repeat' split
      all_goals simp_all
  · simp

/-! ## Accesses -/

theorem readByte_ok (s : State) (va : Word) (b : Byte) :
    readByte s va = .ok b ↔ ∃ pa, translate s va .read = .ok pa ∧ pa.toNat < s.memSize ∧ b = s.mem.read pa.toNat := by
  unfold readByte
  cases h : translate s va .read <;> simp [physRead8_ok]

theorem writeByte_ok (s : State) (va : Word) (b : Byte) (t : State) :
    writeByte s va b = .ok t ↔
      ∃ pa, translate s va .write = .ok pa ∧ pa.toNat < s.memSize ∧ t = { s with mem := s.mem.write pa.toNat b } := by
  unfold writeByte
  cases h : translate s va .write <;> simp [physWrite8_ok]

@[simp] theorem readByte_of_error {s : State} {va : Word} {e : MemFault} (h : translate s va .read = .error e) :
    readByte s va = .error e := by
  simp [readByte, h]

@[simp] theorem writeByte_of_error {s : State} {va : Word} {e : MemFault} (h : translate s va .write = .error e) (b : Byte) :
    writeByte s va b = .error e := by
  simp [writeByte, h]

/-- The address of the byte after next. -/
theorem add_one_add_ofNat (va : Word) (k : Nat) : va + 1 + BitVec.ofNat 32 k = va + BitVec.ofNat 32 (k + 1) := by
  rw [BitVec.add_assoc]; congr 1; apply BitVec.eq_of_toNat_eq; simp; omega

/-- A read of bytes fails exactly with the fault of its first byte that cannot be read. -/
theorem memReadLoop_error (s : State) (e : MemFault) : ∀ (n : Nat) (va v : Word), memReadLoop s n va v = .error e ↔
    ∃ m < n, (∀ k < m, ∃ b, readByte s (va + BitVec.ofNat 32 k) = .ok b) ∧ readByte s (va + BitVec.ofNat 32 m) = .error e
  | 0, va, v => by simp [memReadLoop]
  | n + 1, va, v => by
    unfold memReadLoop
    cases h : readByte s va with
    | error f =>
      constructor
      · intro he; cases he; exact ⟨0, by omega, by simp, by simpa using h⟩
      · rintro ⟨m, -, hk, he⟩
        cases m with
        | zero => simp_all
        | succ m => obtain ⟨b, hb⟩ := hk 0 (by omega); simp_all
    | ok b =>
      simp only [memReadLoop_error s e n (va + 1), add_one_add_ofNat]
      constructor
      · rintro ⟨m, hm, hk, he⟩
        refine ⟨m + 1, by omega, fun k hlt => ?_, he⟩
        cases k with
        | zero => exact ⟨b, by simpa using h⟩
        | succ k => exact hk k (by omega)
      · rintro ⟨m, hm, hk, he⟩
        cases m with
        | zero => simp_all
        | succ m => exact ⟨m, by omega, fun k hlt => hk (k + 1) (by omega), he⟩

/-- Four bytes shifted in one after the other are their concatenation (20_memory.md R64, R70). -/
theorem bigEndian_word (b0 b1 b2 b3 : Byte) :
    ((((0 : Word) <<< 8 ||| b0.setWidth 32) <<< 8 ||| b1.setWidth 32) <<< 8 ||| b2.setWidth 32) <<< 8 ||| b3.setWidth 32 =
      b0 ++ b1 ++ b2 ++ b3 := by
  apply BitVec.eq_of_getLsbD_eq
  intro i hi
  have h1 : i - 8 < 32 := by omega
  have h2 : i - 8 - 8 < 32 := by omega
  have h3 : i - 8 - 8 - 8 < 32 := by omega
  simp only [BitVec.getLsbD_or, BitVec.getLsbD_shiftLeft, BitVec.getLsbD_setWidth, BitVec.getLsbD_append, hi, h1, h2, h3]
  rcases Nat.lt_or_ge i 8 with h | h
  · simp [h]
  rcases Nat.lt_or_ge (i - 8) 8 with h' | h'
  · simp [Nat.not_lt.mpr h, h', BitVec.getLsbD_of_ge _ _ h]
  rcases Nat.lt_or_ge (i - 8 - 8) 8 with h'' | h''
  · simp [Nat.not_lt.mpr h, Nat.not_lt.mpr h', h'', BitVec.getLsbD_of_ge _ _ h, BitVec.getLsbD_of_ge _ _ h']
  · simp [Nat.not_lt.mpr h, Nat.not_lt.mpr h', Nat.not_lt.mpr h'', BitVec.getLsbD_of_ge _ _ h, BitVec.getLsbD_of_ge _ _ h',
      BitVec.getLsbD_of_ge _ _ h'']

/-- A word read is its four bytes, big-endian. -/
theorem memRead_word {s : State} {va : Word} {b : Nat → Byte}
    (h : ∀ k < 4, readByte s (va + BitVec.ofNat 32 k) = .ok (b k)) : memRead s va 4 = .ok (b 0 ++ b 1 ++ b 2 ++ b 3) := by
  have h0 := h 0 (by omega)
  rw [show va + BitVec.ofNat 32 0 = va by simp] at h0
  simp only [memRead, memReadLoop, h0]
  rw [show va + 1 = va + BitVec.ofNat 32 1 from rfl, h 1 (by omega)]
  simp only
  rw [show va + BitVec.ofNat 32 1 + 1 = va + BitVec.ofNat 32 2 by rw [BitVec.add_assoc]; rfl, h 2 (by omega)]
  simp only
  rw [show va + BitVec.ofNat 32 2 + 1 = va + BitVec.ofNat 32 3 by rw [BitVec.add_assoc]; rfl, h 3 (by omega)]
  simp only [bigEndian_word]

/-- A read of bytes never gives WriteProtect. -/
theorem memReadLoop_ne_writeProtect (s : State) (n : Nat) : ∀ va v, memReadLoop s n va v ≠ .error .writeProtect := by
  induction n with
  | zero => simp [memReadLoop]
  | succ n ih =>
    intro va v
    unfold memReadLoop readByte
    cases h : translate s va .read with
    | error e =>
      have := translate_read_ne_writeProtect s va
      simp_all
    | ok pa =>
      cases hb : physRead8 s pa with
      | error e => have := (physRead8_error s pa e).mp hb; simp_all
      | ok b => simpa [hb] using ih _ _

/-- A write of bytes changes memory and nothing else, keeps its canonical form and keeps it within MEM_SIZE, fault or no fault. -/
theorem memWrite_memory (bs : List Byte) : ∀ (s : State) (va : Word), ∃ m : Memory,
    (memWrite s va bs).1 = { s with mem := m } ∧ (s.mem.wf → m.wf) ∧
      ((∀ c ∈ s.mem, c.1 < s.memSize) → ∀ c ∈ m, c.1 < s.memSize) := by
  induction bs with
  | nil => intro s va; exact ⟨s.mem, rfl, id, id⟩
  | cons b bs ih =>
    intro s va
    unfold memWrite
    cases h : writeByte s va b with
    | error e => exact ⟨s.mem, rfl, id, id⟩
    | ok t =>
      obtain ⟨pa, -, hlt, rfl⟩ := (writeByte_ok s va b t).mp h
      obtain ⟨m, hm, hwf, hr⟩ := ih { s with mem := s.mem.write pa.toNat b } (va + 1)
      exact ⟨m, hm, fun w => hwf (write_wf _ _ _ w), fun r => hr (write_in_range _ _ _ _ hlt r)⟩

/-- A load into one register: the exception of its fault, or the register and the advance. -/
theorem loadRegister_next (n : Nat) (ext : Word → Word) (rd : RegIdx) (ea : Word) (s t : State) :
    loadRegister n ext rd ea s = .next t ↔
      (∃ e, memRead s ea n = .error e ∧ t = s.takeException e.flag) ∨
      (∃ v, memRead s ea n = .ok v ∧ t = (s.setReg rd (ext v)).advance) := by
  unfold loadRegister
  cases memRead s ea n
  · simp [eq_comm]
  · simp

/-- A store: the bytes before a failing one and its exception, or all the bytes and the advance. -/
theorem storeBytes_next (ea : Word) (bs : List Byte) (s t : State) :
    storeBytes ea bs s = .next t ↔
      ((memWrite s ea bs).2 = none ∧ t = (memWrite s ea bs).1.advance) ∨
      (∃ e, (memWrite s ea bs).2 = some e ∧ t = (memWrite s ea bs).1.takeException e.flag) := by
  unfold storeBytes
  rcases memWrite s ea bs with ⟨u, _ | e⟩
  · simp
  · simp [eq_comm]

/-! ## The cycle -/

/-- Everything a step can answer with a next state: a fetch that fails, an illegal word, or the decoded instruction. -/
theorem step_next (s t : State) :
    step s = .next t ↔ s.run = .running ∧
      ((∃ r, fetch s = .error r ∧ t = s.halt r) ∨
       (∃ w e, fetch s = .ok w ∧ decode w = .error e ∧ t = s.halt .illegal) ∨
       (∃ w i, fetch s = .ok w ∧ decode w = .ok i ∧ exec i s = .next t)) := by
  unfold step cycle
  cases s.run with
  | halted r => simp
  | running =>
    cases fetch s with
    | error r => simp [eq_comm]
    | ok w => cases hd : decode w <;> simp [hd, eq_comm]

end Sys2Proof.Machine
end

