-- ==== Sys2Proof/Laws/PerInstr.lean ====
section
/-! SUPPORT. Statements made of every instruction, one lemma per constructor. -/

namespace Sys2Proof.Laws.EncodingFitsRow

open Sys2Proof

/-- The encoded word of a well-formed instruction is a word of the opcode table's row of its mnemonic: `(w & mask) = match`
(30_encoding.md R109, R111). -/
def Statement (i : Instr) : Prop :=
  i.wellFormed = true → ∃ r ∈ opcodeRows, r.mnemonic = i.mnemonic ∧ r.fits (encode i) = true

/-- The row named by its place in the table. -/
theorem of_row {i : Instr} (n : Fin 87) (named : (opcodeRows[n.val]'n.isLt).mnemonic = i.mnemonic)
    (fits : i.wellFormed = true → (opcodeRows[n.val]'n.isLt).fits (encode i) = true) : Statement i :=
  fun h => ⟨opcodeRows[n.val]'n.isLt, List.getElem_mem n.isLt, named, fits h⟩

/-- The conjunction of two words of format R, by fields. -/
theorem formatR_and (m km : BitVec 6) (d kd s1 k1 : RegIdx) (f kf : BitVec 11) (s2 k2 : RegIdx) :
    formatR m d s1 f s2 &&& formatR km kd k1 kf k2 = formatR (m &&& km) (d &&& kd) (s1 &&& k1) (f &&& kf) (s2 &&& k2) :=
  BitVec.and_append.trans (congrArg (· ++ _) (BitVec.and_append.trans (congrArg (· ++ _)
    (BitVec.and_append.trans (congrArg (· ++ _) BitVec.and_append)))))

/-- The conjunction of two words of formats I, S and B, by fields. -/
theorem formatI_and (m km : BitVec 6) (d kd s1 k1 : RegIdx) (i ki : BitVec 16) :
    formatI m d s1 i &&& formatI km kd k1 ki = formatI (m &&& km) (d &&& kd) (s1 &&& k1) (i &&& ki) :=
  BitVec.and_append.trans (congrArg (· ++ _) (BitVec.and_append.trans (congrArg (· ++ _) BitVec.and_append)))

/-- A word of format R fits a row whose mask covers MAJOR, FUNC and the register fields that are zero in it. -/
theorem fits_formatR {r : OpcodeRow} {m : BitVec 6} {d s1 : RegIdx} {f : BitVec 11} {s2 : RegIdx} (kd k1 k2 : RegIdx)
    (mask : r.mask = formatR 0x3F kd k1 0x7FF k2) (pattern : r.pattern = formatR m 0 0 f 0)
    (hd : d &&& kd = 0) (h1 : s1 &&& k1 = 0) (h2 : s2 &&& k2 = 0) : r.fits (formatR m d s1 f s2) = true := by
  have hm : m &&& 0x3F = m := BitVec.and_allOnes
  have hf : f &&& 0x7FF = f := BitVec.and_allOnes
  rw [OpcodeRow.fits, mask, pattern, formatR_and, hd, h1, h2, hm, hf, beq_self_eq_true]

/-- A word of formats I, S and B fits a row whose mask covers MAJOR alone. -/
theorem fits_formatI {r : OpcodeRow} {m : BitVec 6} {d s1 : RegIdx} {i : BitVec 16}
    (mask : r.mask = formatI 0x3F 0 0 0) (pattern : r.pattern = formatI m 0 0 0) : r.fits (formatI m d s1 i) = true := by
  have hm : m &&& 0x3F = m := BitVec.and_allOnes
  have zero {n : Nat} (x : BitVec n) : x &&& 0 = 0 := BitVec.and_zero
  rw [OpcodeRow.fits, mask, pattern, formatI_and, zero, zero, zero, hm, beq_self_eq_true]

/-- A word of format T fits the row of trap, whose mask covers all but the vector. -/
theorem fits_formatT {r : OpcodeRow} {m : BitVec 6} {vec : BitVec 9} (mask : r.mask = (0x7FFFFF : BitVec 23) ++ (0 : BitVec 9))
    (pattern : r.pattern = m ++ (0 : BitVec 17) ++ (0 : BitVec 9)) : r.fits (formatT m vec) = true := by
  have hm : (m ++ (0 : BitVec 17) : BitVec 23) &&& 0x7FFFFF = m ++ (0 : BitVec 17) := BitVec.and_allOnes
  have hv : vec &&& 0 = 0 := BitVec.and_zero
  simp only [OpcodeRow.fits, mask, pattern, formatT]
  exact beq_iff_eq.mpr ((BitVec.and_append (x₁ := m ++ (0 : BitVec 17)) (x₂ := (0x7FFFFF : BitVec 23))).trans
    (congrArg₂ (· ++ ·) hm hv))

/-- A legal control-register number has no bit but bit 0. -/
theorem crLegal_and {crN : BitVec 5} (h : crLegal crN = true) : crN &&& 0x1E = 0 := by
  simp only [crLegal, Bool.or_eq_true, beq_iff_eq] at h
  rcases h with rfl | rfl <;> rfl

theorem addi (rd rs1 : RegIdx) (imm : BitVec 16) : Statement (.addi rd rs1 imm) :=
  of_row 0 rfl (fun _ => fits_formatI rfl rfl)
theorem andi (rd rs1 : RegIdx) (imm : BitVec 16) : Statement (.andi rd rs1 imm) :=
  of_row 1 rfl (fun _ => fits_formatI rfl rfl)
theorem ori (rd rs1 : RegIdx) (imm : BitVec 16) : Statement (.ori rd rs1 imm) :=
  of_row 2 rfl (fun _ => fits_formatI rfl rfl)
theorem xori (rd rs1 : RegIdx) (imm : BitVec 16) : Statement (.xori rd rs1 imm) :=
  of_row 3 rfl (fun _ => fits_formatI rfl rfl)
theorem oru (rd rs1 : RegIdx) (imm : BitVec 16) : Statement (.oru rd rs1 imm) :=
  of_row 4 rfl (fun _ => fits_formatI rfl rfl)
theorem ldb (rd rs1 : RegIdx) (imm : BitVec 16) : Statement (.ldb rd rs1 imm) :=
  of_row 5 rfl (fun _ => fits_formatI rfl rfl)
theorem ldbu (rd rs1 : RegIdx) (imm : BitVec 16) : Statement (.ldbu rd rs1 imm) :=
  of_row 6 rfl (fun _ => fits_formatI rfl rfl)
theorem ldh (rd rs1 : RegIdx) (imm : BitVec 16) : Statement (.ldh rd rs1 imm) :=
  of_row 7 rfl (fun _ => fits_formatI rfl rfl)
theorem ldhu (rd rs1 : RegIdx) (imm : BitVec 16) : Statement (.ldhu rd rs1 imm) :=
  of_row 8 rfl (fun _ => fits_formatI rfl rfl)
theorem ldw (rd rs1 : RegIdx) (imm : BitVec 16) : Statement (.ldw rd rs1 imm) :=
  of_row 9 rfl (fun _ => fits_formatI rfl rfl)
theorem ldd (rd rs1 : RegIdx) (imm : BitVec 16) : Statement (.ldd rd rs1 imm) :=
  of_row 10 rfl (fun _ => fits_formatI rfl rfl)
theorem stb (rs rs1 : RegIdx) (imm : BitVec 16) : Statement (.stb rs rs1 imm) :=
  of_row 11 rfl (fun _ => fits_formatI rfl rfl)
theorem sth (rs rs1 : RegIdx) (imm : BitVec 16) : Statement (.sth rs rs1 imm) :=
  of_row 12 rfl (fun _ => fits_formatI rfl rfl)
theorem stw (rs rs1 : RegIdx) (imm : BitVec 16) : Statement (.stw rs rs1 imm) :=
  of_row 13 rfl (fun _ => fits_formatI rfl rfl)
theorem std (rs rs1 : RegIdx) (imm : BitVec 16) : Statement (.std rs rs1 imm) :=
  of_row 14 rfl (fun _ => fits_formatI rfl rfl)
theorem beq (rs1 rs2 : RegIdx) (off : BitVec 16) : Statement (.beq rs1 rs2 off) :=
  of_row 15 rfl (fun _ => fits_formatI rfl rfl)
theorem bne (rs1 rs2 : RegIdx) (off : BitVec 16) : Statement (.bne rs1 rs2 off) :=
  of_row 16 rfl (fun _ => fits_formatI rfl rfl)
theorem blt (rs1 rs2 : RegIdx) (off : BitVec 16) : Statement (.blt rs1 rs2 off) :=
  of_row 17 rfl (fun _ => fits_formatI rfl rfl)
theorem bge (rs1 rs2 : RegIdx) (off : BitVec 16) : Statement (.bge rs1 rs2 off) :=
  of_row 18 rfl (fun _ => fits_formatI rfl rfl)
theorem bgt (rs1 rs2 : RegIdx) (off : BitVec 16) : Statement (.bgt rs1 rs2 off) :=
  of_row 19 rfl (fun _ => fits_formatI rfl rfl)
theorem ble (rs1 rs2 : RegIdx) (off : BitVec 16) : Statement (.ble rs1 rs2 off) :=
  of_row 20 rfl (fun _ => fits_formatI rfl rfl)
theorem trap (vec : BitVec 9) : Statement (.trap vec) :=
  of_row 21 rfl (fun _ => fits_formatT rfl rfl)
theorem vextbi (rd rs1 : RegIdx) (imm : BitVec 16) : Statement (.vextbi rd rs1 imm) :=
  of_row 22 rfl (fun _ => fits_formatI rfl rfl)
theorem vinsbi (rd rs1 : RegIdx) (imm : BitVec 16) : Statement (.vinsbi rd rs1 imm) :=
  of_row 23 rfl (fun _ => fits_formatI rfl rfl)
theorem add (rd rs1 rs2 : RegIdx) : Statement (.add rd rs1 rs2) :=
  of_row 24 rfl (fun _ => fits_formatR 0 0 0 rfl rfl BitVec.and_zero BitVec.and_zero BitVec.and_zero)
theorem sub (rd rs1 rs2 : RegIdx) : Statement (.sub rd rs1 rs2) :=
  of_row 25 rfl (fun _ => fits_formatR 0 0 0 rfl rfl BitVec.and_zero BitVec.and_zero BitVec.and_zero)
theorem mul (rd rs1 rs2 : RegIdx) : Statement (.mul rd rs1 rs2) :=
  of_row 26 rfl (fun _ => fits_formatR 0 0 0 rfl rfl BitVec.and_zero BitVec.and_zero BitVec.and_zero)
theorem div (rd rs1 rs2 : RegIdx) : Statement (.div rd rs1 rs2) :=
  of_row 27 rfl (fun _ => fits_formatR 0 0 0 rfl rfl BitVec.and_zero BitVec.and_zero BitVec.and_zero)
theorem divu (rd rs1 rs2 : RegIdx) : Statement (.divu rd rs1 rs2) :=
  of_row 28 rfl (fun _ => fits_formatR 0 0 0 rfl rfl BitVec.and_zero BitVec.and_zero BitVec.and_zero)
theorem rem (rd rs1 rs2 : RegIdx) : Statement (.rem rd rs1 rs2) :=
  of_row 29 rfl (fun _ => fits_formatR 0 0 0 rfl rfl BitVec.and_zero BitVec.and_zero BitVec.and_zero)
theorem remu (rd rs1 rs2 : RegIdx) : Statement (.remu rd rs1 rs2) :=
  of_row 30 rfl (fun _ => fits_formatR 0 0 0 rfl rfl BitVec.and_zero BitVec.and_zero BitVec.and_zero)
theorem muls (rd rs1 rs2 : RegIdx) : Statement (.muls rd rs1 rs2) :=
  of_row 31 rfl (fun _ => fits_formatR 0 0 0 rfl rfl BitVec.and_zero BitVec.and_zero BitVec.and_zero)
theorem mulu (rd rs1 rs2 : RegIdx) : Statement (.mulu rd rs1 rs2) :=
  of_row 32 rfl (fun _ => fits_formatR 0 0 0 rfl rfl BitVec.and_zero BitVec.and_zero BitVec.and_zero)
theorem divud (rd rs1 rs2 : RegIdx) : Statement (.divud rd rs1 rs2) :=
  of_row 33 rfl (fun _ => fits_formatR 0 0 0 rfl rfl BitVec.and_zero BitVec.and_zero BitVec.and_zero)
theorem cmp (rs1 rs2 : RegIdx) : Statement (.cmp rs1 rs2) :=
  of_row 34 rfl (fun _ => fits_formatR 31 0 0 rfl rfl BitVec.zero_and BitVec.and_zero BitVec.and_zero)
theorem cmpu (rs1 rs2 : RegIdx) : Statement (.cmpu rs1 rs2) :=
  of_row 35 rfl (fun _ => fits_formatR 31 0 0 rfl rfl BitVec.zero_and BitVec.and_zero BitVec.and_zero)
theorem and (rd rs1 rs2 : RegIdx) : Statement (.and rd rs1 rs2) :=
  of_row 36 rfl (fun _ => fits_formatR 0 0 0 rfl rfl BitVec.and_zero BitVec.and_zero BitVec.and_zero)
theorem or (rd rs1 rs2 : RegIdx) : Statement (.or rd rs1 rs2) :=
  of_row 37 rfl (fun _ => fits_formatR 0 0 0 rfl rfl BitVec.and_zero BitVec.and_zero BitVec.and_zero)
theorem xor (rd rs1 rs2 : RegIdx) : Statement (.xor rd rs1 rs2) :=
  of_row 38 rfl (fun _ => fits_formatR 0 0 0 rfl rfl BitVec.and_zero BitVec.and_zero BitVec.and_zero)
theorem extu (rd rs1 rs2 : RegIdx) : Statement (.extu rd rs1 rs2) :=
  of_row 39 rfl (fun _ => fits_formatR 0 0 0 rfl rfl BitVec.and_zero BitVec.and_zero BitVec.and_zero)
theorem mak (rd rs1 rs2 : RegIdx) : Statement (.mak rd rs1 rs2) :=
  of_row 40 rfl (fun _ => fits_formatR 0 0 0 rfl rfl BitVec.and_zero BitVec.and_zero BitVec.and_zero)
theorem rot (rd rs1 rs2 : RegIdx) : Statement (.rot rd rs1 rs2) :=
  of_row 41 rfl (fun _ => fits_formatR 0 0 0 rfl rfl BitVec.and_zero BitVec.and_zero BitVec.and_zero)
theorem ff1 (rd rs1 : RegIdx) : Statement (.ff1 rd rs1) :=
  of_row 42 rfl (fun _ => fits_formatR 0 0 31 rfl rfl BitVec.and_zero BitVec.and_zero BitVec.zero_and)
theorem ff0 (rd rs1 : RegIdx) : Statement (.ff0 rd rs1) :=
  of_row 43 rfl (fun _ => fits_formatR 0 0 31 rfl rfl BitVec.and_zero BitVec.and_zero BitVec.zero_and)
theorem sextb (rd rs1 : RegIdx) : Statement (.sextb rd rs1) :=
  of_row 44 rfl (fun _ => fits_formatR 0 0 31 rfl rfl BitVec.and_zero BitVec.and_zero BitVec.zero_and)
theorem zextb (rd rs1 : RegIdx) : Statement (.zextb rd rs1) :=
  of_row 45 rfl (fun _ => fits_formatR 0 0 31 rfl rfl BitVec.and_zero BitVec.and_zero BitVec.zero_and)
theorem sexth (rd rs1 : RegIdx) : Statement (.sexth rd rs1) :=
  of_row 46 rfl (fun _ => fits_formatR 0 0 31 rfl rfl BitVec.and_zero BitVec.and_zero BitVec.zero_and)
theorem zexth (rd rs1 : RegIdx) : Statement (.zexth rd rs1) :=
  of_row 47 rfl (fun _ => fits_formatR 0 0 31 rfl rfl BitVec.and_zero BitVec.and_zero BitVec.zero_and)
theorem jmp (rs1 : RegIdx) : Statement (.jmp rs1) :=
  of_row 48 rfl (fun _ => fits_formatR 31 0 31 rfl rfl BitVec.zero_and BitVec.and_zero BitVec.zero_and)
theorem jsr (rs1 : RegIdx) : Statement (.jsr rs1) :=
  of_row 49 rfl (fun _ => fits_formatR 31 0 31 rfl rfl BitVec.zero_and BitVec.and_zero BitVec.zero_and)
theorem tbnd (rs1 rs2 : RegIdx) : Statement (.tbnd rs1 rs2) :=
  of_row 50 rfl (fun _ => fits_formatR 31 0 0 rfl rfl BitVec.zero_and BitVec.and_zero BitVec.and_zero)
theorem rte : Statement (.rte) :=
  of_row 51 rfl (fun _ => fits_formatR 31 31 31 rfl rfl BitVec.zero_and BitVec.zero_and BitVec.zero_and)
theorem ldcr (rd : RegIdx) (crN : BitVec 5) : Statement (.ldcr rd crN) :=
  of_row 52 rfl (fun h => fits_formatR 0 31 30 rfl rfl BitVec.and_zero BitVec.zero_and (crLegal_and h))
theorem stcr (rs1 : RegIdx) (crN : BitVec 5) : Statement (.stcr rs1 crN) :=
  of_row 53 rfl (fun h => fits_formatR 31 0 30 rfl rfl BitVec.zero_and BitVec.and_zero (crLegal_and h))
theorem fadd (rd rs1 rs2 : RegIdx) : Statement (.fadd rd rs1 rs2) :=
  of_row 54 rfl (fun _ => fits_formatR 0 0 0 rfl rfl BitVec.and_zero BitVec.and_zero BitVec.and_zero)
theorem fsub (rd rs1 rs2 : RegIdx) : Statement (.fsub rd rs1 rs2) :=
  of_row 55 rfl (fun _ => fits_formatR 0 0 0 rfl rfl BitVec.and_zero BitVec.and_zero BitVec.and_zero)
theorem fmul (rd rs1 rs2 : RegIdx) : Statement (.fmul rd rs1 rs2) :=
  of_row 56 rfl (fun _ => fits_formatR 0 0 0 rfl rfl BitVec.and_zero BitVec.and_zero BitVec.and_zero)
theorem fdiv (rd rs1 rs2 : RegIdx) : Statement (.fdiv rd rs1 rs2) :=
  of_row 57 rfl (fun _ => fits_formatR 0 0 0 rfl rfl BitVec.and_zero BitVec.and_zero BitVec.and_zero)
theorem fcmp (rs1 rs2 : RegIdx) : Statement (.fcmp rs1 rs2) :=
  of_row 58 rfl (fun _ => fits_formatR 31 0 0 rfl rfl BitVec.zero_and BitVec.and_zero BitVec.and_zero)
theorem flt (rd rs1 : RegIdx) : Statement (.flt rd rs1) :=
  of_row 59 rfl (fun _ => fits_formatR 0 0 31 rfl rfl BitVec.and_zero BitVec.and_zero BitVec.zero_and)
theorem int (rd rs1 : RegIdx) : Statement (.int rd rs1) :=
  of_row 60 rfl (fun _ => fits_formatR 0 0 31 rfl rfl BitVec.and_zero BitVec.and_zero BitVec.zero_and)
theorem vadd (rd rs1 rs2 : RegIdx) : Statement (.vadd rd rs1 rs2) :=
  of_row 61 rfl (fun _ => fits_formatR 0 0 0 rfl rfl BitVec.and_zero BitVec.and_zero BitVec.and_zero)
theorem vsub (rd rs1 rs2 : RegIdx) : Statement (.vsub rd rs1 rs2) :=
  of_row 62 rfl (fun _ => fits_formatR 0 0 0 rfl rfl BitVec.and_zero BitVec.and_zero BitVec.and_zero)
theorem vmul (rd rs1 rs2 : RegIdx) : Statement (.vmul rd rs1 rs2) :=
  of_row 63 rfl (fun _ => fits_formatR 0 0 0 rfl rfl BitVec.and_zero BitVec.and_zero BitVec.and_zero)
theorem vdiv (rd rs1 rs2 : RegIdx) : Statement (.vdiv rd rs1 rs2) :=
  of_row 64 rfl (fun _ => fits_formatR 0 0 0 rfl rfl BitVec.and_zero BitVec.and_zero BitVec.and_zero)
theorem vmov (rd rs1 : RegIdx) : Statement (.vmov rd rs1) :=
  of_row 65 rfl (fun _ => fits_formatR 0 0 31 rfl rfl BitVec.and_zero BitVec.and_zero BitVec.zero_and)
theorem vcmpeq (rd rs1 rs2 : RegIdx) : Statement (.vcmpeq rd rs1 rs2) :=
  of_row 66 rfl (fun _ => fits_formatR 0 0 0 rfl rfl BitVec.and_zero BitVec.and_zero BitVec.and_zero)
theorem vcmpgt (rd rs1 rs2 : RegIdx) : Statement (.vcmpgt rd rs1 rs2) :=
  of_row 67 rfl (fun _ => fits_formatR 0 0 0 rfl rfl BitVec.and_zero BitVec.and_zero BitVec.and_zero)
theorem vcmplt (rd rs1 rs2 : RegIdx) : Statement (.vcmplt rd rs1 rs2) :=
  of_row 68 rfl (fun _ => fits_formatR 0 0 0 rfl rfl BitVec.and_zero BitVec.and_zero BitVec.and_zero)
theorem vmin (rd rs1 rs2 : RegIdx) : Statement (.vmin rd rs1 rs2) :=
  of_row 69 rfl (fun _ => fits_formatR 0 0 0 rfl rfl BitVec.and_zero BitVec.and_zero BitVec.and_zero)
theorem vmax (rd rs1 rs2 : RegIdx) : Statement (.vmax rd rs1 rs2) :=
  of_row 70 rfl (fun _ => fits_formatR 0 0 0 rfl rfl BitVec.and_zero BitVec.and_zero BitVec.and_zero)
theorem vshuf (rd rs1 rs2 : RegIdx) : Statement (.vshuf rd rs1 rs2) :=
  of_row 71 rfl (fun _ => fits_formatR 0 0 0 rfl rfl BitVec.and_zero BitVec.and_zero BitVec.and_zero)
theorem vinth (rd rs1 rs2 : RegIdx) : Statement (.vinth rd rs1 rs2) :=
  of_row 72 rfl (fun _ => fits_formatR 0 0 0 rfl rfl BitVec.and_zero BitVec.and_zero BitVec.and_zero)
theorem vintl (rd rs1 rs2 : RegIdx) : Statement (.vintl rd rs1 rs2) :=
  of_row 73 rfl (fun _ => fits_formatR 0 0 0 rfl rfl BitVec.and_zero BitVec.and_zero BitVec.and_zero)
theorem vextb (rd rs1 rs2 : RegIdx) : Statement (.vextb rd rs1 rs2) :=
  of_row 74 rfl (fun _ => fits_formatR 0 0 0 rfl rfl BitVec.and_zero BitVec.and_zero BitVec.and_zero)
theorem vinsb (rd rs1 rs2 : RegIdx) : Statement (.vinsb rd rs1 rs2) :=
  of_row 75 rfl (fun _ => fits_formatR 0 0 0 rfl rfl BitVec.and_zero BitVec.and_zero BitVec.and_zero)
theorem vpack (rd rs1 rs2 : RegIdx) : Statement (.vpack rd rs1 rs2) :=
  of_row 76 rfl (fun _ => fits_formatR 0 0 0 rfl rfl BitVec.and_zero BitVec.and_zero BitVec.and_zero)
theorem vunpkl (rd rs1 : RegIdx) : Statement (.vunpkl rd rs1) :=
  of_row 77 rfl (fun _ => fits_formatR 0 0 31 rfl rfl BitVec.and_zero BitVec.and_zero BitVec.zero_and)
theorem vunpkh (rd rs1 : RegIdx) : Statement (.vunpkh rd rs1) :=
  of_row 78 rfl (fun _ => fits_formatR 0 0 31 rfl rfl BitVec.and_zero BitVec.and_zero BitVec.zero_and)
theorem icache (rs1 : RegIdx) : Statement (.icache rs1) :=
  of_row 79 rfl (fun _ => fits_formatR 31 0 31 rfl rfl BitVec.zero_and BitVec.and_zero BitVec.zero_and)
theorem dcache (rs1 : RegIdx) : Statement (.dcache rs1) :=
  of_row 80 rfl (fun _ => fits_formatR 31 0 31 rfl rfl BitVec.zero_and BitVec.and_zero BitVec.zero_and)
theorem flush (rs1 : RegIdx) : Statement (.flush rs1) :=
  of_row 81 rfl (fun _ => fits_formatR 31 0 31 rfl rfl BitVec.zero_and BitVec.and_zero BitVec.zero_and)
theorem inval (rs1 : RegIdx) : Statement (.inval rs1) :=
  of_row 82 rfl (fun _ => fits_formatR 31 0 31 rfl rfl BitVec.zero_and BitVec.and_zero BitVec.zero_and)
theorem prefetch (rs1 : RegIdx) : Statement (.prefetch rs1) :=
  of_row 83 rfl (fun _ => fits_formatR 31 0 31 rfl rfl BitVec.zero_and BitVec.and_zero BitVec.zero_and)
theorem ldptb (rs1 : RegIdx) : Statement (.ldptb rs1) :=
  of_row 84 rfl (fun _ => fits_formatR 31 0 31 rfl rfl BitVec.zero_and BitVec.and_zero BitVec.zero_and)
theorem tlbinv : Statement (.tlbinv) :=
  of_row 85 rfl (fun _ => fits_formatR 31 31 31 rfl rfl BitVec.zero_and BitVec.zero_and BitVec.zero_and)
theorem xlate (rd rs1 : RegIdx) : Statement (.xlate rd rs1) :=
  of_row 86 rfl (fun _ => fits_formatR 0 0 31 rfl rfl BitVec.and_zero BitVec.and_zero BitVec.zero_and)

end Sys2Proof.Laws.EncodingFitsRow
end

