-- ==== Sys2Proof/Machine/Assembly.lean ====
section
/-! DEFINITION. The written form of instructions and the pseudo-instructions (30_encoding.md R113, R114, D55). -/

namespace Sys2Proof.Machine

open Sys2Proof

/-! ## Pseudo-instructions (30_encoding.md R114) -/

/-- The pseudo-instructions, with a branch given by its byte offset (the assembler encodes `target - address_of_branch`). -/
inductive Pseudo where
  | nop
  | mov (rd rs : RegIdx)
  | clr (rd : RegIdx)
  | li (rd : RegIdx) (imm32 : Word)
  | br (off : BitVec 16)
  | call (rs : RegIdx)
  | ret (rs : RegIdx)
  | subi (rd rs1 : RegIdx) (imm : BitVec 16)
  | clrflags
  deriving DecidableEq, Repr

/-- The instructions a pseudo-instruction stands for. -/
def Pseudo.expand : Pseudo → List Instr
  | .nop => [.or 0 0 0]
  | .mov rd rs => [.or rd rs rs]
  | .clr rd => [.xor rd rd rd]
  | .li rd v => [.xor rd rd rd, .oru rd rd (v.extractLsb' 16 16), .ori rd rd (v.extractLsb' 0 16)]
  | .br off => [.beq 0 0 off]
  | .call rs => [.jsr rs]
  | .ret rs => [.jmp rs]
  | .subi rd rs1 imm => [.addi rd rs1 (-imm)]
  | .clrflags => [.stcr 0 0]

/-- The off16 an assembler encodes for a branch at `addr` to `target`: their difference, which must lie in [-32768, 32767] (R113). -/
def branchOffset (addr target : Word) : Option (BitVec 16) :=
  let d := (target - addr).toInt
  if -32768 ≤ d ∧ d ≤ 32767 then some (BitVec.ofInt 16 d) else none

/-! ## The written form (30_encoding.md R113) -/

/-- `r0` to `r31`. -/
def regName (r : RegIdx) : String := "r" ++ toString r.toNat
/-- `cr0` and `cr1`. -/
def crName (crN : BitVec 5) : String := "cr" ++ toString crN.toNat
/-- A signed immediate in decimal. -/
def signedName (imm : BitVec 16) : String := toString imm.toInt
/-- An unsigned immediate in decimal. -/
def unsignedName {n : Nat} (v : BitVec n) : String := toString v.toNat
/-- A mnemonic and its operands, separated by commas. -/
def asmLine (mnemonic : String) (operands : List String) : String :=
  if operands.isEmpty then mnemonic else mnemonic ++ " " ++ String.intercalate ", " operands
/-- The address operand of a load or store: `simm16(rs1)`. -/
def addressName (rs1 : RegIdx) (imm : BitVec 16) : String := signedName imm ++ "(" ++ regName rs1 ++ ")"
/-- The target operand of a branch at `addr`. -/
def targetName (addr : Word) (off : BitVec 16) : String := unsignedName (addr + simm16 off)

/-- The written form of an instruction at address `addr`: destination first, then the sources in field order. -/
def asm (addr : Word) (i : Instr) : String :=
  match i with
  | .addi rd rs1 imm => asmLine "addi" [regName rd, regName rs1, signedName imm]
  | .andi rd rs1 imm => asmLine "andi" [regName rd, regName rs1, unsignedName imm]
  | .ori rd rs1 imm => asmLine "ori" [regName rd, regName rs1, unsignedName imm]
  | .xori rd rs1 imm => asmLine "xori" [regName rd, regName rs1, unsignedName imm]
  | .oru rd rs1 imm => asmLine "oru" [regName rd, regName rs1, unsignedName imm]
  | .ldb rd rs1 imm => asmLine "ldb" [regName rd, addressName rs1 imm]
  | .ldbu rd rs1 imm => asmLine "ldbu" [regName rd, addressName rs1 imm]
  | .ldh rd rs1 imm => asmLine "ldh" [regName rd, addressName rs1 imm]
  | .ldhu rd rs1 imm => asmLine "ldhu" [regName rd, addressName rs1 imm]
  | .ldw rd rs1 imm => asmLine "ldw" [regName rd, addressName rs1 imm]
  | .ldd rd rs1 imm => asmLine "ldd" [regName rd, addressName rs1 imm]
  | .stb rs rs1 imm => asmLine "stb" [regName rs, addressName rs1 imm]
  | .sth rs rs1 imm => asmLine "sth" [regName rs, addressName rs1 imm]
  | .stw rs rs1 imm => asmLine "stw" [regName rs, addressName rs1 imm]
  | .std rs rs1 imm => asmLine "std" [regName rs, addressName rs1 imm]
  | .beq rs1 rs2 off => asmLine "beq" [regName rs1, regName rs2, targetName addr off]
  | .bne rs1 rs2 off => asmLine "bne" [regName rs1, regName rs2, targetName addr off]
  | .blt rs1 rs2 off => asmLine "blt" [regName rs1, regName rs2, targetName addr off]
  | .bge rs1 rs2 off => asmLine "bge" [regName rs1, regName rs2, targetName addr off]
  | .bgt rs1 rs2 off => asmLine "bgt" [regName rs1, regName rs2, targetName addr off]
  | .ble rs1 rs2 off => asmLine "ble" [regName rs1, regName rs2, targetName addr off]
  | .trap vec => asmLine "trap" [unsignedName vec]
  | .vextbi rd rs1 imm => asmLine "vextbi" [regName rd, regName rs1, unsignedName imm]
  | .vinsbi rd rs1 imm => asmLine "vinsbi" [regName rd, regName rs1, unsignedName imm]
  | .add rd rs1 rs2 => asmLine "add" [regName rd, regName rs1, regName rs2]
  | .sub rd rs1 rs2 => asmLine "sub" [regName rd, regName rs1, regName rs2]
  | .mul rd rs1 rs2 => asmLine "mul" [regName rd, regName rs1, regName rs2]
  | .div rd rs1 rs2 => asmLine "div" [regName rd, regName rs1, regName rs2]
  | .divu rd rs1 rs2 => asmLine "divu" [regName rd, regName rs1, regName rs2]
  | .rem rd rs1 rs2 => asmLine "rem" [regName rd, regName rs1, regName rs2]
  | .remu rd rs1 rs2 => asmLine "remu" [regName rd, regName rs1, regName rs2]
  | .muls rd rs1 rs2 => asmLine "muls" [regName rd, regName rs1, regName rs2]
  | .mulu rd rs1 rs2 => asmLine "mulu" [regName rd, regName rs1, regName rs2]
  | .divud rd rs1 rs2 => asmLine "divud" [regName rd, regName rs1, regName rs2]
  | .cmp rs1 rs2 => asmLine "cmp" [regName rs1, regName rs2]
  | .cmpu rs1 rs2 => asmLine "cmpu" [regName rs1, regName rs2]
  | .and rd rs1 rs2 => asmLine "and" [regName rd, regName rs1, regName rs2]
  | .or rd rs1 rs2 => asmLine "or" [regName rd, regName rs1, regName rs2]
  | .xor rd rs1 rs2 => asmLine "xor" [regName rd, regName rs1, regName rs2]
  | .extu rd rs1 rs2 => asmLine "extu" [regName rd, regName rs1, regName rs2]
  | .mak rd rs1 rs2 => asmLine "mak" [regName rd, regName rs1, regName rs2]
  | .rot rd rs1 rs2 => asmLine "rot" [regName rd, regName rs1, regName rs2]
  | .ff1 rd rs1 => asmLine "ff1" [regName rd, regName rs1]
  | .ff0 rd rs1 => asmLine "ff0" [regName rd, regName rs1]
  | .sextb rd rs1 => asmLine "sextb" [regName rd, regName rs1]
  | .zextb rd rs1 => asmLine "zextb" [regName rd, regName rs1]
  | .sexth rd rs1 => asmLine "sexth" [regName rd, regName rs1]
  | .zexth rd rs1 => asmLine "zexth" [regName rd, regName rs1]
  | .jmp rs1 => asmLine "jmp" [regName rs1]
  | .jsr rs1 => asmLine "jsr" [regName rs1]
  | .tbnd rs1 rs2 => asmLine "tbnd" [regName rs1, regName rs2]
  | .rte => asmLine "rte" []
  | .ldcr rd crN => asmLine "ldcr" [regName rd, crName crN]
  | .stcr rs1 crN => asmLine "stcr" [regName rs1, crName crN]
  | .fadd rd rs1 rs2 => asmLine "fadd" [regName rd, regName rs1, regName rs2]
  | .fsub rd rs1 rs2 => asmLine "fsub" [regName rd, regName rs1, regName rs2]
  | .fmul rd rs1 rs2 => asmLine "fmul" [regName rd, regName rs1, regName rs2]
  | .fdiv rd rs1 rs2 => asmLine "fdiv" [regName rd, regName rs1, regName rs2]
  | .fcmp rs1 rs2 => asmLine "fcmp" [regName rs1, regName rs2]
  | .flt rd rs1 => asmLine "flt" [regName rd, regName rs1]
  | .int rd rs1 => asmLine "int" [regName rd, regName rs1]
  | .vadd rd rs1 rs2 => asmLine "vadd" [regName rd, regName rs1, regName rs2]
  | .vsub rd rs1 rs2 => asmLine "vsub" [regName rd, regName rs1, regName rs2]
  | .vmul rd rs1 rs2 => asmLine "vmul" [regName rd, regName rs1, regName rs2]
  | .vdiv rd rs1 rs2 => asmLine "vdiv" [regName rd, regName rs1, regName rs2]
  | .vmov rd rs1 => asmLine "vmov" [regName rd, regName rs1]
  | .vcmpeq rd rs1 rs2 => asmLine "vcmpeq" [regName rd, regName rs1, regName rs2]
  | .vcmpgt rd rs1 rs2 => asmLine "vcmpgt" [regName rd, regName rs1, regName rs2]
  | .vcmplt rd rs1 rs2 => asmLine "vcmplt" [regName rd, regName rs1, regName rs2]
  | .vmin rd rs1 rs2 => asmLine "vmin" [regName rd, regName rs1, regName rs2]
  | .vmax rd rs1 rs2 => asmLine "vmax" [regName rd, regName rs1, regName rs2]
  | .vshuf rd rs1 rs2 => asmLine "vshuf" [regName rd, regName rs1, regName rs2]
  | .vinth rd rs1 rs2 => asmLine "vinth" [regName rd, regName rs1, regName rs2]
  | .vintl rd rs1 rs2 => asmLine "vintl" [regName rd, regName rs1, regName rs2]
  | .vextb rd rs1 rs2 => asmLine "vextb" [regName rd, regName rs1, regName rs2]
  | .vinsb rd rs1 rs2 => asmLine "vinsb" [regName rd, regName rs1, regName rs2]
  | .vpack rd rs1 rs2 => asmLine "vpack" [regName rd, regName rs1, regName rs2]
  | .vunpkl rd rs1 => asmLine "vunpkl" [regName rd, regName rs1]
  | .vunpkh rd rs1 => asmLine "vunpkh" [regName rd, regName rs1]
  | .icache rs1 => asmLine "icache" [regName rs1]
  | .dcache rs1 => asmLine "dcache" [regName rs1]
  | .flush rs1 => asmLine "flush" [regName rs1]
  | .inval rs1 => asmLine "inval" [regName rs1]
  | .prefetch rs1 => asmLine "prefetch" [regName rs1]
  | .ldptb rs1 => asmLine "ldptb" [regName rs1]
  | .tlbinv => asmLine "tlbinv" []
  | .xlate rd rs1 => asmLine "xlate" [regName rd, regName rs1]

end Sys2Proof.Machine
end

