-- ==== Sys2Proof/Tests/Slice0.lean ====
section
/-! SUPPORT. Tests of one step each, and witnesses of the hypotheses of the obligations. The expected values are those of
spec/95_test_vectors.md and of the examples and corner cases of the instructions' own rules; the words are written out from
30_encoding.md R101 to R109. -/

namespace Sys2Proof.Tests

open Sys2Proof Sys2Proof.Machine Sys2Proof.Claims

/-! ## Helpers -/

/-- The convention of 95_test_vectors.md: the instruction at 0x1000, MMU off, Supervisor, CR0 = 0, Running. -/
def start : State := { State.reset with pc := 0x1000 }

/-- Registers given before the step. -/
def regs (s : State) : List (RegIdx × Word) → State
  | [] => s
  | (i, v) :: l => regs (s.setReg i v) l

/-- Bytes of physical memory given before the step. -/
def bytes (s : State) : Nat → List Byte → State
  | _, [] => s
  | a, b :: l => bytes { s with mem := s.mem.write a b } (a + 1) l

/-- The state after one step on the word `w`. -/
def after (s : State) (w : Nat) : Option State :=
  match step (s.withFetchWord 32 w) with
  | .next t => some t
  | _ => none

/-- What a test looks at after the step: the register rd, CR0 and pc. -/
def see (rd : RegIdx) (s : State) (w : Nat) : Option (Word × Word × Word) := (after s w).map (fun t => (t.reg rd, t.cr0, t.pc))

/-- rd = r3, rs1 = r1 holding a, rs2 = r2 holding b. -/
def run3 (w : Nat) (a b : Word) : Option (Word × Word × Word) := see 3 (regs start [(1, a), (2, b)]) w

/-- CR0 and pc after an instruction without destination, from a CR0. -/
def flags (w : Nat) (cr0 a b : Word) : Option (Word × Word) :=
  (after (regs { start with cr0 := cr0 } [(1, a), (2, b)]) w).map (fun t => (t.cr0, t.pc))

/-- Two registers of a pair and CR0. -/
def pairOf (d : RegIdx) (s : State) (w : Nat) : Option (Word × Word × Word) :=
  (after s w).map (fun t => (t.reg d, t.reg (d + 1), t.cr0))

/-- The four lanes of r8 and CR0, from quads in r10 and r20. -/
def quads (w : Nat) (a b : Quad) : Option (Quad × Word) :=
  (after ((start.setQuad 10 a).setQuad 20 b) w).map (fun t => (t.quad 8, t.cr0))

/-- n bytes of memory from an address, and CR0. -/
def dump (s : State) (w : Nat) (a n : Nat) : Option (List Byte × Word) :=
  (after s w).map (fun t => ((List.range n).map (fun k => t.mem.read (a + k)), t.cr0))

/-! ## Decoding: one word for every constructor, bit by bit: MAJOR, then the fields of its format -/

theorem test_decode_addi : decode 0b000001_10101_01010_1000000000000001 = .ok (.addi 21 10 0x8001) := by decide
theorem test_decode_andi : decode 0b000010_10101_01010_1000000000000001 = .ok (.andi 21 10 0x8001) := by decide
theorem test_decode_ori : decode 0b000011_10101_01010_1000000000000001 = .ok (.ori 21 10 0x8001) := by decide
theorem test_decode_xori : decode 0b000100_10101_01010_1000000000000001 = .ok (.xori 21 10 0x8001) := by decide
theorem test_decode_oru : decode 0b000101_10101_01010_1000000000000001 = .ok (.oru 21 10 0x8001) := by decide
theorem test_decode_ldb : decode 0b001000_10101_01010_1000000000000001 = .ok (.ldb 21 10 0x8001) := by decide
theorem test_decode_ldbu : decode 0b001001_10101_01010_1000000000000001 = .ok (.ldbu 21 10 0x8001) := by decide
theorem test_decode_ldh : decode 0b001010_10101_01010_1000000000000001 = .ok (.ldh 21 10 0x8001) := by decide
theorem test_decode_ldhu : decode 0b001011_10101_01010_1000000000000001 = .ok (.ldhu 21 10 0x8001) := by decide
theorem test_decode_ldw : decode 0b001100_10101_01010_1000000000000001 = .ok (.ldw 21 10 0x8001) := by decide
theorem test_decode_ldd : decode 0b001101_10101_01010_1000000000000001 = .ok (.ldd 21 10 0x8001) := by decide
theorem test_decode_stb : decode 0b010000_10101_01010_1000000000000001 = .ok (.stb 21 10 0x8001) := by decide
theorem test_decode_sth : decode 0b010001_10101_01010_1000000000000001 = .ok (.sth 21 10 0x8001) := by decide
theorem test_decode_stw : decode 0b010010_10101_01010_1000000000000001 = .ok (.stw 21 10 0x8001) := by decide
theorem test_decode_std : decode 0b010011_10101_01010_1000000000000001 = .ok (.std 21 10 0x8001) := by decide
theorem test_decode_beq : decode 0b011000_10101_01010_1000000000000001 = .ok (.beq 21 10 0x8001) := by decide
theorem test_decode_bne : decode 0b011001_10101_01010_1000000000000001 = .ok (.bne 21 10 0x8001) := by decide
theorem test_decode_blt : decode 0b011010_10101_01010_1000000000000001 = .ok (.blt 21 10 0x8001) := by decide
theorem test_decode_bge : decode 0b011011_10101_01010_1000000000000001 = .ok (.bge 21 10 0x8001) := by decide
theorem test_decode_bgt : decode 0b011100_10101_01010_1000000000000001 = .ok (.bgt 21 10 0x8001) := by decide
theorem test_decode_ble : decode 0b011101_10101_01010_1000000000000001 = .ok (.ble 21 10 0x8001) := by decide
theorem test_decode_trap : decode 0b100000_00000000000000000_101010101 = .ok (.trap 0x155) := by decide
theorem test_decode_vextbi : decode 0b100001_10101_01010_1000000000000001 = .ok (.vextbi 21 10 0x8001) := by decide
theorem test_decode_vinsbi : decode 0b100010_10101_01010_1000000000000001 = .ok (.vinsbi 21 10 0x8001) := by decide
theorem test_decode_add : decode 0b110000_10101_01010_00000000000_11011 = .ok (.add 21 10 27) := by decide
theorem test_decode_sub : decode 0b110000_10101_01010_00000000001_11011 = .ok (.sub 21 10 27) := by decide
theorem test_decode_mul : decode 0b110000_10101_01010_00000000010_11011 = .ok (.mul 21 10 27) := by decide
theorem test_decode_div : decode 0b110000_10101_01010_00000000011_11011 = .ok (.div 21 10 27) := by decide
theorem test_decode_divu : decode 0b110000_10101_01010_00000000100_11011 = .ok (.divu 21 10 27) := by decide
theorem test_decode_rem : decode 0b110000_10101_01010_00000000101_11011 = .ok (.rem 21 10 27) := by decide
theorem test_decode_remu : decode 0b110000_10101_01010_00000000110_11011 = .ok (.remu 21 10 27) := by decide
theorem test_decode_muls : decode 0b110000_10101_01010_00000000111_11011 = .ok (.muls 21 10 27) := by decide
theorem test_decode_mulu : decode 0b110000_10101_01010_00000001000_11011 = .ok (.mulu 21 10 27) := by decide
theorem test_decode_divud : decode 0b110000_10101_01010_00000001001_11011 = .ok (.divud 21 10 27) := by decide
theorem test_decode_cmp : decode 0b110000_00000_01010_00000001010_11011 = .ok (.cmp 10 27) := by decide
theorem test_decode_cmpu : decode 0b110000_00000_01010_00000001011_11011 = .ok (.cmpu 10 27) := by decide
theorem test_decode_and : decode 0b110000_10101_01010_00000010000_11011 = .ok (.and 21 10 27) := by decide
theorem test_decode_or : decode 0b110000_10101_01010_00000010001_11011 = .ok (.or 21 10 27) := by decide
theorem test_decode_xor : decode 0b110000_10101_01010_00000010010_11011 = .ok (.xor 21 10 27) := by decide
theorem test_decode_extu : decode 0b110000_10101_01010_00000011000_11011 = .ok (.extu 21 10 27) := by decide
theorem test_decode_mak : decode 0b110000_10101_01010_00000011001_11011 = .ok (.mak 21 10 27) := by decide
theorem test_decode_rot : decode 0b110000_10101_01010_00000011010_11011 = .ok (.rot 21 10 27) := by decide
theorem test_decode_ff1 : decode 0b110000_10101_01010_00000011011_00000 = .ok (.ff1 21 10) := by decide
theorem test_decode_ff0 : decode 0b110000_10101_01010_00000011100_00000 = .ok (.ff0 21 10) := by decide
theorem test_decode_sextb : decode 0b110000_10101_01010_00000011101_00000 = .ok (.sextb 21 10) := by decide
theorem test_decode_zextb : decode 0b110000_10101_01010_00000011110_00000 = .ok (.zextb 21 10) := by decide
theorem test_decode_sexth : decode 0b110000_10101_01010_00000011111_00000 = .ok (.sexth 21 10) := by decide
theorem test_decode_zexth : decode 0b110000_10101_01010_00000100000_00000 = .ok (.zexth 21 10) := by decide
theorem test_decode_jmp : decode 0b110001_00000_01010_00000000000_00000 = .ok (.jmp 10) := by decide
theorem test_decode_jsr : decode 0b110001_00000_01010_00000000001_00000 = .ok (.jsr 10) := by decide
theorem test_decode_tbnd : decode 0b110001_00000_01010_00000000010_11011 = .ok (.tbnd 10 27) := by decide
theorem test_decode_rte : decode 0b110001_00000_00000_00000000011_00000 = .ok .rte := by decide
theorem test_decode_ldcr : decode 0b110001_10101_00000_00000000100_00001 = .ok (.ldcr 21 1) := by decide
theorem test_decode_stcr : decode 0b110001_00000_01010_00000000101_00001 = .ok (.stcr 10 1) := by decide
theorem test_decode_fadd : decode 0b110010_10101_01010_00000000000_11011 = .ok (.fadd 21 10 27) := by decide
theorem test_decode_fsub : decode 0b110010_10101_01010_00000000001_11011 = .ok (.fsub 21 10 27) := by decide
theorem test_decode_fmul : decode 0b110010_10101_01010_00000000010_11011 = .ok (.fmul 21 10 27) := by decide
theorem test_decode_fdiv : decode 0b110010_10101_01010_00000000011_11011 = .ok (.fdiv 21 10 27) := by decide
theorem test_decode_fcmp : decode 0b110010_00000_01010_00000000100_11011 = .ok (.fcmp 10 27) := by decide
theorem test_decode_flt : decode 0b110010_10101_01010_00000000101_00000 = .ok (.flt 21 10) := by decide
theorem test_decode_int : decode 0b110010_10101_01010_00000000110_00000 = .ok (.int 21 10) := by decide
theorem test_decode_vadd : decode 0b110011_10101_01010_00000000000_11011 = .ok (.vadd 21 10 27) := by decide
theorem test_decode_vsub : decode 0b110011_10101_01010_00000000001_11011 = .ok (.vsub 21 10 27) := by decide
theorem test_decode_vmul : decode 0b110011_10101_01010_00000000010_11011 = .ok (.vmul 21 10 27) := by decide
theorem test_decode_vdiv : decode 0b110011_10101_01010_00000000011_11011 = .ok (.vdiv 21 10 27) := by decide
theorem test_decode_vmov : decode 0b110011_10101_01010_00000000100_00000 = .ok (.vmov 21 10) := by decide
theorem test_decode_vcmpeq : decode 0b110011_10101_01010_00000001000_11011 = .ok (.vcmpeq 21 10 27) := by decide
theorem test_decode_vcmpgt : decode 0b110011_10101_01010_00000001001_11011 = .ok (.vcmpgt 21 10 27) := by decide
theorem test_decode_vcmplt : decode 0b110011_10101_01010_00000001010_11011 = .ok (.vcmplt 21 10 27) := by decide
theorem test_decode_vmin : decode 0b110011_10101_01010_00000001011_11011 = .ok (.vmin 21 10 27) := by decide
theorem test_decode_vmax : decode 0b110011_10101_01010_00000001100_11011 = .ok (.vmax 21 10 27) := by decide
theorem test_decode_vshuf : decode 0b110011_10101_01010_00000001101_11011 = .ok (.vshuf 21 10 27) := by decide
theorem test_decode_vinth : decode 0b110011_10101_01010_00000001110_11011 = .ok (.vinth 21 10 27) := by decide
theorem test_decode_vintl : decode 0b110011_10101_01010_00000001111_11011 = .ok (.vintl 21 10 27) := by decide
theorem test_decode_vextb : decode 0b110011_10101_01010_00000010000_11011 = .ok (.vextb 21 10 27) := by decide
theorem test_decode_vinsb : decode 0b110011_10101_01010_00000010001_11011 = .ok (.vinsb 21 10 27) := by decide
theorem test_decode_vpack : decode 0b110011_10101_01010_00000010010_11011 = .ok (.vpack 21 10 27) := by decide
theorem test_decode_vunpkl : decode 0b110011_10101_01010_00000010011_00000 = .ok (.vunpkl 21 10) := by decide
theorem test_decode_vunpkh : decode 0b110011_10101_01010_00000010100_00000 = .ok (.vunpkh 21 10) := by decide
theorem test_decode_icache : decode 0b110100_00000_01010_00000000000_00000 = .ok (.icache 10) := by decide
theorem test_decode_dcache : decode 0b110100_00000_01010_00000000001_00000 = .ok (.dcache 10) := by decide
theorem test_decode_flush : decode 0b110100_00000_01010_00000000010_00000 = .ok (.flush 10) := by decide
theorem test_decode_inval : decode 0b110100_00000_01010_00000000011_00000 = .ok (.inval 10) := by decide
theorem test_decode_prefetch : decode 0b110100_00000_01010_00000000100_00000 = .ok (.prefetch 10) := by decide
theorem test_decode_ldptb : decode 0b110100_00000_01010_00000001000_00000 = .ok (.ldptb 10) := by decide
theorem test_decode_tlbinv : decode 0b110100_00000_00000_00000001001_00000 = .ok .tlbinv := by decide
theorem test_decode_xlate : decode 0b110100_10101_01010_00000001010_00000 = .ok (.xlate 21 10) := by decide

/-! ## Well-formedness: each check refuses an ill-formed term -/

theorem test_ldcr_of_control_register_2_ill_formed : Instr.wellFormed (.ldcr 5 2) = false := by decide
theorem test_ldcr_of_control_register_31_ill_formed : Instr.wellFormed (.ldcr 5 31) = false := by decide
theorem test_stcr_of_control_register_2_ill_formed : Instr.wellFormed (.stcr 7 2) = false := by decide
theorem test_stcr_of_control_register_31_ill_formed : Instr.wellFormed (.stcr 7 31) = false := by decide

/-! ## Illegal words (95_test_vectors.md 2.1): ILL and halt, pc stays -/

theorem test_illegal_major_0 : (after start 0x0000_0000).map (fun t => (t.cr0, t.run, t.pc)) =
    some (0x0040_0000, .halted .illegal, 0x1000) := by decide
theorem test_illegal_major_3F : (after start 0xFFFF_FFFF).map (fun t => (t.cr0, t.run, t.pc)) =
    some (0x0040_0000, .halted .illegal, 0x1000) := by decide
theorem test_illegal_integer_func_63 : (after start 0xC000_07E0).map (fun t => (t.cr0, t.run, t.pc)) =
    some (0x0040_0000, .halted .illegal, 0x1000) := by decide
theorem test_illegal_ldcr_cr2 : (after start 0xC4A0_0082).map (fun t => (t.cr0, t.run, t.pc)) =
    some (0x0040_0000, .halted .illegal, 0x1000) := by decide
theorem test_illegal_ff1_with_s2 : (after start 0xC061_0361).map (fun t => (t.cr0, t.run, t.pc)) =
    some (0x0040_0000, .halted .illegal, 0x1000) := by decide
theorem test_illegal_trap_with_bit_9 : (after start 0x8000_0200).map (fun t => (t.cr0, t.run, t.pc)) =
    some (0x0040_0000, .halted .illegal, 0x1000) := by decide

/-! ## Integer (95_test_vectors.md 1.1-1.4, 2.2-2.5) -/

theorem test_add : run3 0xC061_0002 0xFFFF_FFFF 1 = some (0, 0, 0x1004) ∧
    run3 0xC061_0002 0x7FFF_FFFF 1 = some (0x8000_0000, 0, 0x1004) := by decide
theorem test_sub : run3 0xC061_0022 0 1 = some (0xFFFF_FFFF, 0, 0x1004) ∧
    run3 0xC061_0022 5 7 = some (0xFFFF_FFFE, 0, 0x1004) := by decide
theorem test_mul : run3 0xC061_0042 0x0001_0000 0x0001_0000 = some (0, 0, 0x1004) ∧
    run3 0xC061_0042 0xFFFF_FFFD 7 = some (0xFFFF_FFEB, 0, 0x1004) := by decide
theorem test_div : run3 0xC061_0062 5 0 = some (0, 0x0000_0100, 0x1004) ∧
    run3 0xC061_0062 0x8000_0000 0xFFFF_FFFF = some (0x8000_0000, 0, 0x1004) ∧
    run3 0xC061_0062 0xFFFF_FFF9 2 = some (0xFFFF_FFFD, 0, 0x1004) ∧
    run3 0xC061_0062 7 0xFFFF_FFFE = some (0xFFFF_FFFD, 0, 0x1004) := by decide
theorem test_divu : run3 0xC061_0082 0xFFFF_FFFF 0 = some (0, 0x0000_0100, 0x1004) ∧
    run3 0xC061_0082 0xFFFF_FFF9 2 = some (0x7FFF_FFFC, 0, 0x1004) ∧
    run3 0xC061_0082 7 0xFFFF_FFFE = some (0, 0, 0x1004) := by decide
theorem test_rem : run3 0xC061_00A2 5 0 = some (0, 0x0000_0100, 0x1004) ∧
    run3 0xC061_00A2 0x8000_0000 0xFFFF_FFFF = some (0, 0, 0x1004) ∧
    run3 0xC061_00A2 0xFFFF_FFF9 2 = some (0xFFFF_FFFF, 0, 0x1004) ∧
    run3 0xC061_00A2 7 0xFFFF_FFFE = some (1, 0, 0x1004) := by decide
theorem test_remu : run3 0xC061_00C2 5 0 = some (0, 0x0000_0100, 0x1004) ∧
    run3 0xC061_00C2 0x0000_0064 7 = some (2, 0, 0x1004) ∧
    run3 0xC061_00C2 0x8000_0000 0xFFFF_FFFF = some (0x8000_0000, 0, 0x1004) := by decide
theorem test_muls : pairOf 4 (regs start [(1, 0x8000_0000), (2, 0x7FFF_FFFF)]) 0xC081_00E2 = some (0xC000_0000, 0x8000_0000, 0) ∧
    pairOf 31 (regs start [(1, 3), (2, 5)]) 0xC3E1_00E2 = some (0, 0x0000_000F, 0) := by decide
theorem test_mulu : pairOf 4 (regs start [(1, 0xFFFF_FFFF), (2, 0xFFFF_FFFF)]) 0xC081_0102 = some (0xFFFF_FFFE, 1, 0) ∧
    pairOf 4 (regs start [(1, 0xFFFF_FFFF), (2, 2)]) 0xC081_0102 = some (1, 0xFFFF_FFFE, 0) := by decide
theorem test_divud : pairOf 4 (regs start [(6, 5), (7, 3), (2, 2)]) 0xC086_0122 = some (0x8000_0001, 1, 0) ∧
    pairOf 4 (regs start [(6, 5), (7, 3), (2, 0)]) 0xC086_0122 = some (0, 0, 0x0000_0100) := by decide
theorem test_addi : run3 0x0461_FFFC 0x0000_0010 0 = some (0x0000_000C, 0, 0x1004) := by decide
theorem test_addi_least_immediate : run3 0x0461_8000 0 0 = some (0xFFFF_8000, 0, 0x1004) := by decide
theorem test_andi : run3 0x0861_00FF 0x1234_5678 0 = some (0x0000_0078, 0, 0x1004) := by decide
theorem test_ori : run3 0x0C61_5678 0x1234_0000 0 = some (0x1234_5678, 0, 0x1004) := by decide
theorem test_xori : run3 0x1061_FFFF 0xFFFF_FFFF 0 = some (0xFFFF_0000, 0, 0x1004) := by decide
theorem test_oru : run3 0x1461_DEAD 0x0000_BEEF 0 = some (0xDEAD_BEEF, 0, 0x1004) := by decide
theorem test_and : run3 0xC061_0202 0xF0F0_F0F0 0xFF00_FF00 = some (0xF000_F000, 0, 0x1004) := by decide
theorem test_or : run3 0xC061_0222 0xF0F0_F0F0 0x0F00_0000 = some (0xFFF0_F0F0, 0, 0x1004) := by decide
theorem test_xor : run3 0xC061_0242 0xFF00_FF00 0x0FF0_0FF0 = some (0xF0F0_F0F0, 0, 0x1004) := by decide
theorem test_cmp : flags 0xC001_0142 0 0xFFFF_FFFF 1 = some (2, 0x1004) ∧
    flags 0xC001_0142 0 0x8000_0000 0x7FFF_FFFF = some (2, 0x1004) ∧
    flags 0xC001_0142 0x0010_0006 9 9 = some (0x0010_0001, 0x1004) ∧
    flags 0xC001_0142 0x0000_000F 9 9 = some (9, 0x1004) := by decide
theorem test_cmpu : flags 0xC001_0162 0 0xFFFF_FFFF 1 = some (4, 0x1004) ∧
    flags 0xC001_0162 0 0 0xFFFF_FFFF = some (2, 0x1004) := by decide
theorem test_extu : run3 0xC061_0302 0xABCD_1234 0xFFFF_FC88 = some (0x0000_0023, 0, 0x1004) ∧
    run3 0xC061_0302 0xFFFF_FFFF 0x0000_001F = some (0x7FFF_FFFF, 0, 0x1004) ∧
    run3 0xC061_0302 0xABCD_1234 0x0000_0388 = some (0x0000_000A, 0, 0x1004) ∧
    run3 0xC061_0302 0xFFFF_FFFF 0x0000_0020 = some (0, 0, 0x1004) := by decide
theorem test_mak : run3 0xC061_0322 0x0000_00AB 0x0000_0104 = some (0x0000_0B00, 0, 0x1004) ∧
    run3 0xC061_0322 0xFFFF_FFFF 0x0000_03FF = some (0x8000_0000, 0, 0x1004) ∧
    run3 0xC061_0322 0xFFFF_FFFF 0x0000_0040 = some (0, 0, 0x1004) := by decide
theorem test_rot : run3 0xC061_0342 0x1234_5678 8 = some (0x7812_3456, 0, 0x1004) ∧
    run3 0xC061_0342 0x1234_5678 0x0000_0020 = some (0x1234_5678, 0, 0x1004) ∧
    run3 0xC061_0342 0x1234_5678 0xFFFF_FFE1 = some (0x091A_2B3C, 0, 0x1004) := by decide
theorem test_ff1 : run3 0xC061_0360 0 0 = some (0x0000_0020, 0, 0x1004) ∧
    run3 0xC061_0360 1 0 = some (0, 0, 0x1004) ∧
    run3 0xC061_0360 0x0000_0100 0 = some (8, 0, 0x1004) ∧
    run3 0xC061_0360 0x8000_0000 0 = some (0x0000_001F, 0, 0x1004) := by decide
theorem test_ff0 : run3 0xC061_0380 0xFFFF_FFFF 0 = some (0x0000_0020, 0, 0x1004) ∧
    run3 0xC061_0380 0xFFFF_FFFE 0 = some (0, 0, 0x1004) ∧
    run3 0xC061_0380 0x0000_00FF 0 = some (8, 0, 0x1004) := by decide
theorem test_sextb : run3 0xC061_03A0 0x0000_00F0 0 = some (0xFFFF_FFF0, 0, 0x1004) ∧
    run3 0xC061_03A0 0x1234_567F 0 = some (0x0000_007F, 0, 0x1004) := by decide
theorem test_zextb : run3 0xC061_03C0 0xFFFF_FFF0 0 = some (0x0000_00F0, 0, 0x1004) := by decide
theorem test_sexth : run3 0xC061_03E0 0x1234_8000 0 = some (0xFFFF_8000, 0, 0x1004) ∧
    run3 0xC061_03E0 0x0000_7FFF 0 = some (0x0000_7FFF, 0, 0x1004) := by decide
theorem test_zexth : run3 0xC061_0400 0xFFFF_8000 0 = some (0x0000_8000, 0, 0x1004) := by decide

/-! ## Control (95_test_vectors.md 1.8, 2.6) -/

/-- pc after one step from a pc and registers. -/
def goes (pc : Word) (l : List (RegIdx × Word)) (w : Nat) : Option Word := (after (regs { start with pc := pc } l) w).map State.pc

/-- The User state of 95_test_vectors.md 1.8. -/
def user : State := regs { start with priv := .user, sxip := 0x500 } [(1, 0x0001_2345)]

/-- Nothing but PRV and the advance (60_exceptions.md R362). -/
def gated (w : Nat) : Prop :=
  after user w = some { user.withFetchWord 32 w with cr0 := 0x0010_0000, pc := 0x1004 }

theorem test_beq : goes 0x100 [(1, 5), (2, 5)] 0x6022_FFF8 = some 0xF8 ∧
    goes 0x100 [(1, 5), (2, 6)] 0x6022_FFF8 = some 0x104 := by decide
theorem test_bne : goes 0x20 [(3, 1), (0, 0)] 0x6460_FFFC = some 0x1C ∧
    goes 0x20 [(3, 1), (0, 1)] 0x6460_FFFC = some 0x24 := by decide
theorem test_blt : goes 0x40 [(1, 0xFFFF_FFFF), (2, 1)] 0x6822_000C = some 0x4C ∧
    goes 0x40 [(1, 1), (2, 0xFFFF_FFFF)] 0x6822_000C = some 0x44 := by decide
theorem test_bge : goes 0x40 [(1, 5), (2, 5)] 0x6C22_0008 = some 0x48 ∧
    goes 0x40 [(1, 0xFFFF_FFFF), (2, 5)] 0x6C22_0008 = some 0x44 := by decide
theorem test_bgt : goes 0 [(4, 0x7FFF_FFFF), (5, 0x8000_0000)] 0x7085_0010 = some 0x10 ∧
    goes 0 [(4, 5), (5, 5)] 0x7085_0010 = some 4 := by decide
theorem test_ble : goes 0x10 [(4, 5), (5, 5)] 0x7485_8000 = some 0xFFFF_8010 ∧
    goes 0x10 [(4, 6), (5, 5)] 0x7485_8000 = some 0x14 := by decide
theorem test_jmp : goes 0x1000 [(1, 0x200)] 0xC401_0000 = some 0x200 ∧
    goes 0x1000 [(1, 0x2002)] 0xC401_0000 = some 0x2002 := by decide
theorem test_jsr : see 31 (regs { start with pc := 0x100 } [(31, 0x400)]) 0xC41F_0020 = some (0x104, 0, 0x400) := by decide
theorem test_trap : (after start 0x8000_0005).map (fun t => (t.cr0, t.tvec, t.pc)) = some (0x0002_0000, 5, 0x1004) := by decide
theorem test_tbnd : flags 0xC401_0042 0 0x0000_000A 9 = some (0x0001_0000, 0x1004) ∧
    flags 0xC401_0042 0 0xFFFF_FFFF 1 = some (0x0001_0000, 0x1004) ∧
    flags 0xC401_0042 0 9 9 = some (0, 0x1004) := by decide
theorem test_rte : (after { start with pc := 0x2000, sxip := 0x1000, snip := 0x1004, sfip := 0x1008 } 0xC400_0060).map
    (fun t => (t.pc, t.nip, t.fip, t.sxip, t.cr0)) = some (0x1000, 0x1004, 0x1008, 0x1000, 0) := by decide
theorem test_ldcr : see 5 { start with tvec := 0x1FF } 0xC4A0_0081 = some (0x1FF, 0, 0x1004) ∧
    see 5 { start with cr0 := 0x0002_0000, priv := .user } 0xC4A0_0080 = some (0x0002_0000, 0x0002_0000, 0x1004) := by decide
theorem test_stcr : (after (regs start [(7, 0xFFFF_FFFF)]) 0xC407_00A0).map State.cr0 = some 0x007F_1FFF ∧
    (after (regs start [(1, 0x1234)]) 0xC401_00A1).map State.tvec = some 0x034 := by decide
theorem test_user_mode_sets_privilege_violation_only : gated 0xD001_0000 ∧ gated 0xD001_0020 ∧ gated 0xD001_0040 ∧ gated 0xD001_0060 ∧
    gated 0xD001_0100 ∧ gated 0xD000_0120 ∧ gated 0xC400_0060 ∧ gated 0xC401_00A0 := by
  unfold gated
  decide

/-! ## Floating point (95_test_vectors.md 1.6, 2.7) -/

theorem test_fadd : run3 0xC861_0002 0x3F80_0000 0x4000_0000 = some (0x4040_0000, 0, 0x1004) ∧
    run3 0xC861_0002 0x7F7F_FFFF 0x7F7F_FFFF = some (0x7F80_0000, 0x0000_0800, 0x1004) ∧
    run3 0xC861_0002 0x3F80_0000 0xBF80_0000 = some (0, 0x0000_1000, 0x1004) ∧
    run3 0xC861_0002 0x7F80_0000 0xFF80_0000 = some (0x7FC0_0000, 0, 0x1004) := by decide
theorem test_fadd_zeros_tie_subnormal : run3 0xC861_0002 0x8000_0000 0x8000_0000 = some (0x8000_0000, 0, 0x1004) ∧
    run3 0xC861_0002 0x8000_0000 0 = some (0, 0, 0x1004) ∧
    run3 0xC861_0002 0x3F80_0000 0x3380_0000 = some (0x3F80_0000, 0, 0x1004) ∧
    run3 0xC861_0002 0x0080_0000 0x8000_0001 = some (0x007F_FFFF, 0, 0x1004) := by decide
theorem test_fsub : run3 0xC861_0022 0x4040_0000 0x3F00_0000 = some (0x4020_0000, 0, 0x1004) ∧
    run3 0xC861_0022 0x7F80_0000 0x7F80_0000 = some (0x7FC0_0000, 0x0000_0400, 0x1004) ∧
    run3 0xC861_0022 0x7F7F_FFFF 0xFF7F_FFFF = some (0x7F80_0000, 0, 0x1004) ∧
    run3 0xC861_0022 0x3F80_0000 0x3F80_0000 = some (0, 0, 0x1004) := by decide
theorem test_fmul : run3 0xC861_0042 0x3FC0_0000 0xC000_0000 = some (0xC040_0000, 0, 0x1004) ∧
    run3 0xC861_0042 0x7149_F2CA 0x7149_F2CA = some (0x7F80_0000, 0x0000_0800, 0x1004) ∧
    run3 0xC861_0042 0x0DA2_4260 0x0DA2_4260 = some (0, 0x0000_1000, 0x1004) ∧
    run3 0xC861_0042 0 0x7F80_0000 = some (0x7FC0_0000, 0, 0x1004) := by decide
theorem test_fmul_subnormal : run3 0xC861_0042 0x8000_0000 0x40A0_0000 = some (0x8000_0000, 0, 0x1004) ∧
    run3 0xC861_0042 1 0x3F00_0000 = some (0, 0x0000_1000, 0x1004) ∧
    run3 0xC861_0042 1 0x3F40_0000 = some (1, 0, 0x1004) := by decide
theorem test_fdiv : run3 0xC861_0062 0x3F80_0000 0x4040_0000 = some (0x3EAA_AAAB, 0, 0x1004) ∧
    run3 0xC861_0062 0x3F80_0000 0x7F80_0000 = some (0, 0x0000_1000, 0x1004) ∧
    run3 0xC861_0062 0x7F80_0000 0x7F80_0000 = some (0x7FC0_0000, 0, 0x1004) ∧
    run3 0xC861_0062 0x7F7F_FFFF 0x3F00_0000 = some (0x7F80_0000, 0x0000_0800, 0x1004) := by decide
theorem test_fdiv_by_zero : run3 0xC861_0062 0x3F80_0000 0x8000_0000 = some (0x7F80_0000, 0x0000_0100, 0x1004) ∧
    run3 0xC861_0062 0xBF80_0000 0 = some (0xFF80_0000, 0x0000_0100, 0x1004) ∧
    run3 0xC861_0062 0x8000_0000 0 = some (0x7FC0_0000, 0x0000_0500, 0x1004) ∧
    run3 0xC861_0062 0xFFC0_0000 0 = some (0xFF80_0000, 0x0000_0100, 0x1004) := by decide
theorem test_fcmp : flags 0xC801_0082 0 0x3F80_0000 0x4000_0000 = some (0x0000_0020, 0x1004) ∧
    flags 0xC801_0082 0x0000_00F0 0x4000_0000 0x3F80_0000 = some (0x0000_0040, 0x1004) ∧
    flags 0xC801_0082 0 0x8000_0000 0 = some (0x0000_0010, 0x1004) ∧
    flags 0xC801_0082 0x0000_0101 0x7F80_0000 0x4040_0000 = some (0x0000_0141, 0x1004) := by decide
theorem test_fcmp_infinities_and_nan : flags 0xC801_0082 0 0xFF80_0000 0x7F80_0000 = some (0x0000_0020, 0x1004) ∧
    flags 0xC801_0082 0 0x7F80_0000 0x7F80_0000 = some (0x0000_0010, 0x1004) ∧
    flags 0xC801_0082 0 0x7FC0_0000 0x7FC0_0000 = some (0x0000_0080, 0x1004) := by decide
theorem test_flt : run3 0xC861_00A0 0 0 = some (0, 0, 0x1004) ∧
    run3 0xC861_00A0 0x0100_0001 0 = some (0x4B80_0000, 0, 0x1004) ∧
    run3 0xC861_00A0 0x0100_0003 0 = some (0x4B80_0002, 0, 0x1004) ∧
    run3 0xC861_00A0 0x8000_0000 0 = some (0xCF00_0000, 0, 0x1004) := by decide
theorem test_int : run3 0xC861_00C0 0x4020_0000 0 = some (2, 0, 0x1004) ∧
    run3 0xC861_00C0 0xC020_0000 0 = some (0xFFFF_FFFE, 0, 0x1004) ∧
    run3 0xC861_00C0 0x3F00_0001 0 = some (1, 0, 0x1004) ∧
    run3 0xC861_00C0 1 0 = some (0, 0, 0x1004) := by decide
theorem test_int_range : run3 0xC861_00C0 0x4F00_0000 0 = some (0x7FFF_FFFF, 0x0000_0800, 0x1004) ∧
    run3 0xC861_00C0 0xCF00_0000 0 = some (0x8000_0000, 0, 0x1004) ∧
    run3 0xC861_00C0 0xCF80_0000 0 = some (0x8000_0000, 0x0000_0800, 0x1004) ∧
    run3 0xC861_00C0 0xFF80_0000 0 = some (0, 0x0000_0400, 0x1004) ∧
    run3 0xC861_00C0 0x7FC0_0000 0 = some (0, 0x0000_0400, 0x1004) := by decide

/-! ## Vector (95_test_vectors.md 2.8) -/

theorem test_vadd : quads 0xCD0A_0014 ⟨0x3F80_0000, 0x4000_0000, 0x7F80_0000, 0x7FC0_0000⟩ ⟨0x4040_0000, 0xC000_0000, 0xFF80_0000, 0x3F80_0000⟩ = some (⟨0x4080_0000, 0, 0x7FC0_0000, 0x7FC0_0000⟩, 0x0000_0400) ∧
    quads 0xCD0A_0014 ⟨0x7F7F_FFFF, 0x3F80_0000, 0, 0⟩ ⟨0x7F7F_FFFF, 0xBF80_0000, 0, 0⟩ = some (⟨0x7F80_0000, 0, 0, 0⟩, 0) := by decide
theorem test_vsub : quads 0xCD0A_0034 ⟨0x3F80_0000, 0x7F80_0000, 0x40A0_0000, 0⟩ ⟨0x3F80_0000, 0x7F80_0000, 0x4020_0000, 0⟩ = some (⟨0, 0x7FC0_0000, 0x4020_0000, 0⟩, 0x0000_0400) := by decide
theorem test_vmul : quads 0xCD0A_0054 ⟨0x4000_0000, 0, 0x7149_F2CA, 0xBF80_0000⟩ ⟨0x4040_0000, 0x7F80_0000, 0x7149_F2CA, 0⟩ = some (⟨0x40C0_0000, 0x7FC0_0000, 0x7F80_0000, 0x8000_0000⟩, 0x0000_0400) := by decide
theorem test_vdiv : quads 0xCD0A_0074 ⟨0x3F80_0000, 0, 0x40C0_0000, 0x7F80_0000⟩ ⟨0, 0, 0xC000_0000, 0x7F80_0000⟩ = some (⟨0x7FC0_0000, 0x7FC0_0000, 0xC040_0000, 0x7FC0_0000⟩, 0x0000_0100) ∧
    quads 0xCD0A_0074 ⟨0x7F80_0000, 0x3F80_0000, 0, 0⟩ ⟨0x7F80_0000, 0x4000_0000, 0x3F80_0000, 0x3F80_0000⟩ = some (⟨0x7FC0_0000, 0x3F00_0000, 0, 0⟩, 0) := by decide
theorem test_vmov : quads 0xCD0A_0080 ⟨1, 2, 3, 4⟩ ⟨0, 0, 0, 0⟩ = some (⟨1, 2, 3, 4⟩, 0) := by decide
theorem test_vmov_overlap : (after (start.setQuad 1 ⟨1, 2, 3, 4⟩) 0xCC41_0080).map (fun t => t.quad 2) = some ⟨1, 2, 3, 4⟩ := by decide
theorem test_vcmpeq : run3 0xCC61_0102 0x1122_3344 0x11FF_3300 = some (0xFF00_FF00, 0, 0x1004) := by decide
theorem test_vcmpgt : run3 0xCC61_0122 0x8001_7F00 0x7F02_0001 = some (0xFF00_FF00, 0, 0x1004) ∧
    run3 0xCC61_0122 0x0000_0080 0x0000_007F = some (0x0000_00FF, 0, 0x1004) := by decide
theorem test_vcmplt : run3 0xCC61_0142 0x8001_7F00 0x7F02_0001 = some (0x00FF_00FF, 0, 0x1004) := by decide
theorem test_vmin : run3 0xCC61_0162 0x8001_7F00 0x7F02_0001 = some (0x7F01_0000, 0, 0x1004) := by decide
theorem test_vmax : run3 0xCC61_0182 0x8001_7F00 0x7F02_0001 = some (0x8002_7F01, 0, 0x1004) := by decide
theorem test_vshuf : run3 0xCC61_01A2 0x4433_2211 0x0000_001B = some (0x1122_3344, 0, 0x1004) ∧
    run3 0xCC61_01A2 0x4433_2211 0 = some (0x1111_1111, 0, 0x1004) ∧
    run3 0xCC61_01A2 0x4433_2211 0xFFFF_FF1B = some (0x1122_3344, 0, 0x1004) := by decide
theorem test_vinth : run3 0xCC61_01C2 0x4433_2211 0x8877_6655 = some (0x8844_7733, 0, 0x1004) := by decide
theorem test_vintl : run3 0xCC61_01E2 0x4433_2211 0x8877_6655 = some (0x6622_5511, 0, 0x1004) := by decide
theorem test_vextb : run3 0xCC61_0202 0x4433_2211 2 = some (0x0000_0033, 0, 0x1004) ∧
    run3 0xCC61_0202 0x4433_2211 7 = some (0x0000_0044, 0, 0x1004) := by decide
theorem test_vpack : run3 0xCC61_0242 0x1122_3344 0x5566_7788 = some (0x6688_2244, 0, 0x1004) ∧
    run3 0xCC61_0242 0x0000_1234 0 = some (0x0000_0034, 0, 0x1004) := by decide
theorem test_vunpkl : run3 0xCC61_0260 0x4433_2211 0 = some (0x0022_0011, 0, 0x1004) := by decide
theorem test_vunpkh : run3 0xCC61_0280 0x4433_2211 0 = some (0x0044_0033, 0, 0x1004) := by decide
theorem test_vextbi : run3 0x8461_0003 0x4433_2211 0 = some (0x44, 0, 0x1004) ∧
    run3 0x8461_FFFF 0x4433_2211 0 = some (0x44, 0, 0x1004) := by decide
theorem test_vinsb : see 3 (regs start [(1, 0xABCD_EFAB), (2, 1), (3, 0x4433_2211)]) 0xCC61_0222 = some (0x4433_AB11, 0, 0x1004) ∧
    see 3 (regs start [(2, 0), (3, 0x4433_2211)]) 0xCC63_0222 = some (0x4433_2211, 0, 0x1004) := by decide
theorem test_vinsbi : see 3 (regs start [(1, 0x99), (3, 0x4433_2211)]) 0x8861_0002 = some (0x4499_2211, 0, 0x1004) := by decide

/-! ## System (95_test_vectors.md 1.7, 2.9) -/

/-- The MMU on with a table at 0x0001_0000 and the given bytes at physical addresses; page 1 holds the code at frame 1. -/
def mapped (p : Priv) (va : Word) : List (Nat × List Byte) → State
  | [] => regs { bytes start 0x0001_0004 [0, 0, 0x10, 0x01] with ptb := 0x0001_0000, mmuEn := true, priv := p } [(1, va), (3, 0xAABB_CCDD)]
  | (a, l) :: m => bytes (mapped p va m) a l

theorem test_cache_control_only_advances : after start 0xD001_0000 = some { start.withFetchWord 32 0xD001_0000 with pc := 0x1004 } ∧
    after start 0xD001_0020 = some { start.withFetchWord 32 0xD001_0020 with pc := 0x1004 } ∧
    after start 0xD001_0040 = some { start.withFetchWord 32 0xD001_0040 with pc := 0x1004 } ∧
    after start 0xD001_0060 = some { start.withFetchWord 32 0xD001_0060 with pc := 0x1004 } := by decide
theorem test_prefetch : after user 0xD001_0080 = some { user.withFetchWord 32 0xD001_0080 with pc := 0x1004 } := by decide
theorem test_ldptb : (after (regs start [(1, 0x0001_0ABC)]) 0xD001_0100).map (fun t => (t.ptb, t.mmuEn, t.cr0)) = some (0x0001_0000, true, 0) := by decide
theorem test_tlbinv : (after (mapped .supervisor 0 []) 0xD000_0120).map (fun t => (t.ptb, t.mmuEn, t.cr0)) = some (0x0001_0000, false, 0) := by decide
theorem test_xlate : see 3 (mapped .supervisor 0x0000_4FFF [(0x0001_0010, [0x00, 0x00, 0x50, 0x03])]) 0xD061_0140 = some (0x0000_5FFF, 0, 0x1004) ∧
    see 3 (mapped .supervisor 0x0000_3008 [(0x0001_000C, [0x00, 0x00, 0x70, 0x05])]) 0xD061_0140 = some (0x0000_7008, 0, 0x1004) ∧
    see 3 (regs start [(1, 0xFFFF_FFFF)]) 0xD061_0140 = some (0xFFFF_FFFF, 0, 0x1004) := by decide
/-- Where the translation fails, CR0, pc and the other registers, and nothing of rd, whose value is open. -/
theorem test_xlate_page_fault :
    (after (mapped .supervisor 0x0000_3000 []) 0xD061_0140).map (fun t => (t.cr0, t.pc, t.reg 1)) = some (0x0004_0000, 0x1004, 0x3000) ∧
    (after (mapped .user 0x0000_3008 [(0x0001_000C, [0x00, 0x00, 0x70, 0x05])]) 0xD061_0140).map (fun t => (t.cr0, t.pc, t.reg 1)) =
      some (0x0004_0000, 0x1004, 0x3008) := by decide

/-! ## Loads and stores (95_test_vectors.md 1.5, 2.9, 2.10) -/

/-- The memory of 95_test_vectors.md 2.10, with r1. -/
def data (r1 : Word) : State := bytes (regs start [(1, r1)]) 0x100 [0x11, 0x22, 0x33, 0x44, 0x55, 0x66, 0x77, 0x88, 0xF0]

theorem test_ldb : see 3 (data 0x109) 0x2061_FFFF = some (0xFFFF_FFF0, 0, 0x1004) := by decide
theorem test_ldbu : see 3 (data 0x108) 0x2461_0000 = some (0x0000_00F0, 0, 0x1004) := by decide
theorem test_ldh : see 3 (data 0xFE) 0x2861_0002 = some (0x0000_1122, 0, 0x1004) ∧
    see 3 (data 0x107) 0x2861_0000 = some (0xFFFF_88F0, 0, 0x1004) := by decide
theorem test_ldhu : see 3 (data 0x105) 0x2C61_0002 = some (0x0000_88F0, 0, 0x1004) := by decide
theorem test_ldw : see 3 (data 0xFC) 0x3061_0004 = some (0x1122_3344, 0, 0x1004) ∧
    see 3 (data 0x101) 0x3061_0000 = some (0x2233_4455, 0, 0x1004) := by decide
theorem test_ldd : pairOf 4 (data 0xF8) 0x3481_0008 = some (0x1122_3344, 0x5566_7788, 0) ∧
    pairOf 1 (data 0x100) 0x3421_0000 = some (0x1122_3344, 0x5566_7788, 0) ∧
    pairOf 31 (data 0x100) 0x37E1_0000 = some (0x1122_3344, 0x5566_7788, 0) := by decide
theorem test_stb : dump (regs start [(3, 0x1234_56AB), (1, 0x200)]) 0x4061_0000 0x200 2 = some ([0xAB, 0x00], 0) := by decide
theorem test_sth : dump (regs start [(3, 0x1234_56AB), (1, 0x200)]) 0x4461_0002 0x201 4 = some ([0x00, 0x56, 0xAB, 0x00], 0) := by decide
theorem test_stw : dump (regs start [(3, 0x1122_3344), (1, 0x1FC)]) 0x4861_0004 0x200 4 = some ([0x11, 0x22, 0x33, 0x44], 0) := by decide
theorem test_std : dump (regs start [(4, 0x1122_3344), (5, 0x5566_7788), (1, 0x1F8)]) 0x4C81_0008 0x200 8 = some ([0x11, 0x22, 0x33, 0x44, 0x55, 0x66, 0x77, 0x88], 0) := by decide
theorem test_ldw_at_the_top_of_memory : see 3 (regs start [(1, 0x00FF_FFFE), (3, 0x77)]) 0x3061_0000 = some (0x77, 0x0020_0000, 0x1004) ∧
    see 3 (regs start [(1, 0xFFFF_FFFC), (3, 0x77)]) 0x3061_0000 = some (0x77, 0x0020_0000, 0x1004) := by decide
theorem test_ldd_second_word_beyond_memory : pairOf 4 (bytes (regs start [(1, 0x00FF_FFFC), (5, 9)]) 0x00FF_FFFC [1, 2, 3, 4]) 0x3481_0000 = some (0x0102_0304, 9, 0x0020_0000) := by decide
theorem test_stw_partial_at_the_top_of_memory : dump (regs start [(3, 0xAABB_CCDD), (1, 0x00FF_FFFE)]) 0x4861_0000 0x00FF_FFFD 3 = some ([0x00, 0xAA, 0xBB], 0x0020_0000) := by decide
theorem test_std_partial_at_the_top_of_memory : dump (regs start [(4, 0x1122_3344), (5, 0x5566_7788), (1, 0x00FF_FFFA)]) 0x4C81_0000 0x00FF_FFFA 6 = some ([0x11, 0x22, 0x33, 0x44, 0x55, 0x66], 0x0020_0000) := by decide
theorem test_loads_fault : see 3 (mapped .supervisor 0x3008 []) 0x3061_0000 = some (0xAABB_CCDD, 0x0004_0000, 0x1004) ∧
    see 3 (mapped .supervisor 0x3008 [(0x0001_000C, [0xFF, 0x7F, 0xF0, 0x01])]) 0x2061_0000 = some (0xAABB_CCDD, 0x0020_0000, 0x1004) := by decide
theorem test_stores_write_protect : dump (mapped .supervisor 0x3008 [(0x0001_000C, [0x00, 0x00, 0x70, 0x01])]) 0x4061_0000 0x7008 1 = some ([0x00], 0x0008_0000) ∧
    dump (mapped .supervisor 0x4FFE [(0x0001_0010, [0x00, 0x00, 0x20, 0x03]), (0x0001_0014, [0x00, 0x00, 0x30, 0x01])]) 0x4861_0000 0x2FFE 4 = some ([0xAA, 0xBB, 0x00, 0x00], 0x0008_0000) := by decide

/-! ## Fetch, halts and reset (95_test_vectors.md 2.11) -/

/-- CR0, run and pc after one step with nothing placed. -/
def bare (s : State) : Option (Word × RunState × Word) :=
  match step s with
  | .next t => some (t.cr0, t.run, t.pc)
  | _ => none

theorem test_fetch_misaligned : bare { start with pc := 0x1002 } = some (0x0020_0000, .halted .fetchMisaligned, 0x1002) := by decide
theorem test_fetch_beyond_memory : bare { start with pc := 0x0100_0000 } = some (0x0020_0000, .halted .fetchAddrError, 0x0100_0000) ∧
    bare { start with pc := 0x0040_0000, mmuEn := true, ptb := 0x00FF_F000 } = some (0x0020_0000, .halted .fetchAddrError, 0x0040_0000) := by decide
theorem test_fetch_page_fault : bare { start with mmuEn := true, ptb := 0x0001_0000 } = some (0x0004_0000, .halted .fetchPageFault, 0x1000) ∧
    bare { bytes start 0x0001_0004 [0, 0, 0x20, 7] with mmuEn := true, ptb := 0x0001_0000, priv := .user } =
      some (0x0004_0000, .halted .fetchPageFault, 0x1000) := by decide
theorem test_pc_wraps : (match step (bytes { start with pc := 0xFFFF_FFFC, mmuEn := true, ptb := 0x0001_0000 } 0x0040_FFFC [0, 0, 0x20, 3] |>.withFetchWord 32 0x0421_0001) with
      | .next t => some (t.reg 1, t.pc)
      | _ => none) = some (1, 0) := by decide
theorem test_reset_with_nothing_loaded : bare State.reset = some (0x0040_0000, .halted .illegal, 0) := by decide
theorem test_halted_core_has_no_step : bare { start with run := .halted .illegal } = none := by decide

/-! ## Witnesses: for every obligation with hypotheses, a concrete state and operands that meet them, each clause at a boundary -/

/-- The next state of an outcome, if there is one. -/
def nextOf (r : Result) : Option State :=
  match r with
  | .next t => some t
  | _ => none

/-- The next state of an outcome that has one. -/
def outOf (r : Result) : State := (nextOf r).getD start

theorem eq_next (r : Result) (h : (nextOf r).isSome = true) : r = .next (outOf r) := by
  cases r <;> simp_all [nextOf, outOf]

/-- `ori r1, r0, 7` in the last word of memory, and pc there. -/
def top : State := { start with pc := 0x00FF_FFFC }.withFetchWord 32 0x0C20_0007

/-- The MMU on and nothing mapped. -/
def unmapped : State := { start with mmuEn := true, ptb := 0x0001_0000 }

theorem witness_DecodeOfEncode : Instr.wellFormed (.ldcr 31 1) = true ∧ Instr.wellFormed (.stcr 0 0) = true ∧
    Instr.wellFormed (.trap 511) = true ∧ Instr.wellFormed (.stw 31 0 0x8000) = true := by decide

theorem witness_EncodeOfDecode : decode 0x8000_01FF = .ok (.trap 511) ∧ decode 0xC4A0_0081 = .ok (.ldcr 5 1) := by decide

theorem witness_IllegalExactlyWhenNoRowFits : decode 0 = .error .unassignedMajor ∧
    ∃ r ∈ opcodeRows, (0xC061_0002 : Word) &&& r.mask = r.pattern := by decide

set_option maxRecDepth 4000 in
theorem witness_NoWordFitsTwoRows : ∃ r ∈ opcodeRows, ∃ q ∈ opcodeRows,
    (0xD000_0120 : Word) &&& r.mask = r.pattern ∧ (0xD000_0120 : Word) &&& q.mask = q.pattern := by decide

theorem witness_StepRunsDecodedInstruction : top.run = .running ∧ top.pc.extractLsb' 0 2 = 0 ∧
    memRead top top.pc 4 = .ok 0x0C20_0007 ∧ decode 0x0C20_0007 = .ok (.ori 1 0 7) := by decide

theorem witness_StepRunsBytesAtPc : top.run = .running ∧ top.mmuEn = false ∧ top.pc.toNat % 4 = 0 ∧
    top.pc.toNat + 3 < top.memSize ∧
    decodeBytes ([0, 1, 2, 3].map (fun k => top.mem.read (top.pc.toNat + k)) ++ [0x55]) = .ok (.ori 1 0 7, [0x55]) := by decide

/-- A User core that is to fetch `ori r1, r0, 7` from a mapped page. -/
def coded : State := (mapped .user 0 []).withFetchWord 32 0x0C20_0007

theorem witness_StepRunsBytesAtPc_translated : coded.run = .running ∧ coded.mmuEn = true ∧ coded.pc.toNat % 4 = 0 ∧
    BytesRead coded coded.pc 4 (fun k => [0x0C, 0x20, 0x00, 0x07].getD k 0) ∧
    decode ((0x0C : Byte) ++ (0x20 : Byte) ++ (0x00 : Byte) ++ (0x07 : Byte)) = .ok (.ori 1 0 7) := by
  unfold BytesRead
  decide

theorem witness_PlacedWordRunsNext : top.mmuEn = false ∧ top.pc.toNat % 4 = 0 ∧ top.pc.toNat + 3 < top.memSize ∧
    decode 0xC061_0002 = .ok (.add 3 1 2) := by decide

/-- A halted core. -/
def stopped : State := { start with run := .halted .illegal }

theorem witness_HaltedCoreHasNoStep : stopped.run = .halted .illegal ∧
    (HostAction.load 0x00FF_FFFF 1).apply stopped = .next (outOf ((HostAction.load 0x00FF_FFFF 1).apply stopped)) ∧
    (∀ n, HostAction.load 0x00FF_FFFF 1 ≠ .reset n) ∧ (∀ q, HostAction.load 0x00FF_FFFF 1 ≠ .setRun q) ∧
    (HostAction.reset 0).apply stopped = .next (State.resetWith 0) :=
  ⟨by decide, eq_next _ (by decide), fun _ => by simp, fun _ => by simp, rfl⟩

theorem witness_DecoderEventsHalt_misaligned : ({ start with pc := 0x1001 } : State).run = .running ∧
    ({ start with pc := 0x1001 } : State).pc.extractLsb' 0 2 ≠ 0 ∧ ({ start with pc := 0x1003 } : State).pc.extractLsb' 0 2 ≠ 0 := by
  decide

theorem witness_DecoderEventsHalt_page_fault : unmapped.run = .running ∧ unmapped.pc.extractLsb' 0 2 = 0 ∧
    memRead unmapped unmapped.pc 4 = .error .pageFault := by decide

theorem witness_DecoderEventsHalt_address_error : ({ start with pc := 0x0100_0000 } : State).run = .running ∧
    ({ start with pc := 0x0100_0000 } : State).pc.extractLsb' 0 2 = 0 ∧
    memRead { start with pc := 0x0100_0000 } 0x0100_0000 4 = .error .addrError := by decide

theorem witness_DecoderEventsHalt_illegal : start.run = .running ∧ start.pc.extractLsb' 0 2 = 0 ∧
    memRead start start.pc 4 = .ok 0 ∧ decode 0 = .error .unassignedMajor := by decide

/-- The first byte of the fetch, and the last one where MEM_SIZE ends there. -/
theorem witness_DecoderEventsHalt_bytes :
    (BytesRead unmapped unmapped.pc 0 (fun _ => 0) ∧ readByte unmapped (unmapped.pc + BitVec.ofNat 32 0) = .error .pageFault) ∧
    (BytesRead { start with pc := 0x0100_0000 } 0x0100_0000 0 (fun _ => 0) ∧
      readByte { start with pc := 0x0100_0000 } (0x0100_0000 + BitVec.ofNat 32 0) = .error .addrError) ∧
    (BytesRead { start with memSize := 0x1003 } 0x1000 3 (fun _ => 0) ∧
      readByte { start with memSize := 0x1003 } (0x1000 + BitVec.ofNat 32 3) = .error .addrError) ∧
    (BytesRead start start.pc 4 (fun _ => 0) ∧
      decode ((0 : Byte) ++ (0 : Byte) ++ (0 : Byte) ++ (0 : Byte)) = .error .unassignedMajor) := by
  unfold BytesRead
  decide

/-- A User core that is to fetch a word. -/
def fetching (w : Word) : State := { start with priv := .user }.withFetchWord 32 w.toNat

theorem witness_IllegalControlRegisterHalts_ldcr : (fetching (wordR 0x31 5 0 4 2)).run = .running ∧
    (fetching (wordR 0x31 5 0 4 2)).pc.extractLsb' 0 2 = 0 ∧
    memRead (fetching (wordR 0x31 5 0 4 2)) 0x1000 4 = .ok (wordR 0x31 5 0 4 2) ∧ 2 ≤ (2 : BitVec 5).toNat := by decide

theorem witness_IllegalControlRegisterHalts_stcr : (fetching (wordR 0x31 0 7 5 31)).run = .running ∧
    (fetching (wordR 0x31 0 7 5 31)).pc.extractLsb' 0 2 = 0 ∧
    memRead (fetching (wordR 0x31 0 7 5 31)) 0x1000 4 = .ok (wordR 0x31 0 7 5 31) ∧ 2 ≤ (31 : BitVec 5).toNat := by decide

/-- `stb r1, 0(r1)` with r1 at the last byte of memory. -/
def storing : State := (regs start [(1, 0x00FF_FFFF)]).withFetchWord 32 0x4021_0000

theorem witness_StepKeepsInvariant : storing.Inv ∧ step storing = .next (outOf (step storing)) ∧
    (outOf (step storing)).mem.read 0x00FF_FFFF = 0xFF :=
  ⟨⟨by decide, by decide, by decide, by decide⟩, eq_next _ (by decide), by decide⟩

theorem witness_SessionKeepsInvariant : ∃ s, HostReaches s ∧ s.mem = [(0, 1)] ∧ s.run = .halted .illegal ∧ s.memSize = 4 :=
  ⟨_, .act .step (.act (.load 0 1) (.reset 4) (eq_next _ (by decide))) (eq_next _ (by decide)), by decide, by decide, by decide⟩

theorem witness_StepKeepsPrivilegeAndShadows : step top = .next (outOf (step top)) ∧ (outOf (step top)).reg 1 = 7 :=
  ⟨eq_next _ (by decide), by decide⟩

/-- Every flag set, and `stcr r0, cr0` to run. -/
def clearing : State := { start with cr0 := 0x007F_1FFF }.withFetchWord 32 0xC400_00A0

theorem witness_OnlyStcrClearsStickyFlags : step clearing = .next (outOf (step clearing)) ∧
    ∀ f ∈ [Flag.DZ, .NX, .NV, .OF, .UF, .BND, .TRP, .PF, .WP, .PRV, .AE, .ILL],
      clearing.flag f = true ∧ (outOf (step clearing)).flag f = false :=
  ⟨eq_next _ (by decide), by decide⟩

/-- Registers and shadows that each writer of special state changes something with. -/
def writer : State := regs { start with snip := 4, ptb := 0x1000 } [(1, 0x0000_2001)]

theorem witness_WritersOfSpecialState :
    (exec .rte writer = .next (outOf (exec .rte writer)) ∧ (outOf (exec .rte writer)).nip ≠ writer.nip) ∧
    (exec (.trap 511) writer = .next (outOf (exec (.trap 511) writer)) ∧ (outOf (exec (.trap 511) writer)).tvec ≠ writer.tvec) ∧
    (exec (.stcr 1 1) writer = .next (outOf (exec (.stcr 1 1) writer)) ∧ (outOf (exec (.stcr 1 1) writer)).tvec ≠ writer.tvec) ∧
    (exec (.ldptb 1) writer = .next (outOf (exec (.ldptb 1) writer)) ∧ (outOf (exec (.ldptb 1) writer)).ptb ≠ writer.ptb ∧
      (outOf (exec (.ldptb 1) writer)).mmuEn ≠ writer.mmuEn) ∧
    (exec .tlbinv unmapped = .next (outOf (exec .tlbinv unmapped)) ∧ (outOf (exec .tlbinv unmapped)).mmuEn ≠ unmapped.mmuEn) ∧
    (exec (.stb 1 1 0) writer = .next (outOf (exec (.stb 1 1 0) writer)) ∧
      (outOf (exec (.stb 1 1 0) writer)).mem.read 0x2001 ≠ writer.mem.read 0x2001) :=
  ⟨⟨eq_next _ (by decide), by decide⟩, ⟨eq_next _ (by decide), by decide⟩, ⟨eq_next _ (by decide), by decide⟩,
    ⟨eq_next _ (by decide), by decide, by decide⟩, ⟨eq_next _ (by decide), by decide⟩, ⟨eq_next _ (by decide), by decide⟩⟩

theorem witness_OnlyControlFlowRedirects :
    (Instr.wellFormed (.ble 4 5 0x8000) = true ∧ exec (.ble 4 5 0x8000) start = .next (outOf (exec (.ble 4 5 0x8000) start)) ∧
      (outOf (exec (.ble 4 5 0x8000) start)).pc ≠ start.pc + 4) ∧
    (exec (.jsr 1) writer = .next (outOf (exec (.jsr 1) writer)) ∧ (outOf (exec (.jsr 1) writer)).pc ≠ writer.pc + 4) ∧
    (exec .rte writer = .next (outOf (exec .rte writer)) ∧ (outOf (exec .rte writer)).pc ≠ writer.pc + 4) :=
  ⟨⟨by decide, eq_next _ (by decide), by decide⟩, ⟨eq_next _ (by decide), by decide⟩, ⟨eq_next _ (by decide), by decide⟩⟩

theorem witness_EveryInstructionGoesOn : Instr.wellFormed .rte = true ∧ Instr.wellFormed (.stcr 31 1) = true := by decide

theorem witness_PrivilegeCheck_gated : Instr.wellFormed (.stcr 7 1) = true ∧ Gated (.stcr 7 1) ∧ user.priv = .user :=
  ⟨by decide, by simp [Gated], by decide⟩

theorem witness_PrivilegeCheck_others : Instr.wellFormed (.ldcr 7 1) = true ∧ ¬ Gated (.ldcr 7 1) ∧
    exec (.ldcr 7 1) user = .next (outOf (exec (.ldcr 7 1) user)) :=
  ⟨by decide, by simp [Gated], eq_next _ (by decide)⟩

theorem witness_OtherInstructionsIgnorePrivilege : Instr.wellFormed (.ldw 3 1 0) = true ∧ ¬ Gated (.ldw 3 1 0) ∧
    user.mmuEn = false ∧ exec (.ldw 3 1 0) user = .next (outOf (exec (.ldw 3 1 0) user)) :=
  ⟨by decide, by simp [Gated], by decide, eq_next _ (by decide)⟩

/-- MIN_INT in r1 and -2 in r2. -/
def dividing : State := regs start [(1, 0x8000_0000), (2, 0xFFFF_FFFE)]

theorem witness_DivisionIdentities : dividing.reg 2 ≠ 0 ∧ ¬ (dividing.reg 1 = 0x8000_0000 ∧ dividing.reg 2 = 0xFFFF_FFFF) ∧
    exec (.div 3 1 2) dividing = .next (outOf (exec (.div 3 1 2) dividing)) ∧
    exec (.rem 4 1 2) dividing = .next (outOf (exec (.rem 4 1 2) dividing)) ∧
    exec (.divu 3 1 2) dividing = .next (outOf (exec (.divu 3 1 2) dividing)) ∧
    exec (.remu 4 1 2) dividing = .next (outOf (exec (.remu 4 1 2) dividing)) :=
  ⟨by decide, by decide, eq_next _ (by decide), eq_next _ (by decide), eq_next _ (by decide), eq_next _ (by decide)⟩

/-- Both branches of ConditionalBranches, MAX_INT against MIN_INT. -/
theorem witness_ConditionalBranches : (0x7FFF_FFFF : Word).toInt > (0x8000_0000 : Word).toInt ∧
    ¬ (0x7FFF_FFFF : Word).toInt < (0x8000_0000 : Word).toInt := by decide

/-- Both levels: ReturnFromException, ControlRegisterTransfer, CacheAndMmuControl. -/
theorem witness_ReturnFromException : start.priv = .supervisor ∧ user.priv = .user := by decide

theorem witness_ControlRegisterTransfer : start.priv = .supervisor ∧ user.priv = .user ∧ (1 : RegIdx).toNat < 2 ∧
    2 ≤ (2 : BitVec 5).toNat ∧ 2 ≤ (31 : BitVec 5).toNat := by decide

theorem witness_CacheAndMmuControl : start.priv = .supervisor ∧ user.priv = .user ∧
    Instr.tlbinv ∈ [Instr.icache 1, .dcache 1, .flush 1, .inval 1, .ldptb 1, .tlbinv] := by decide

theorem witness_AddRoundsToNearestEven : IsFinite 0x7F7F_FFFF ∧ IsFinite 0x8000_0001 ∧
    isInf (fadd32 0x7F7F_FFFF 0x7F7F_FFFF) = true ∧ isInf (fadd32 0x7F7F_FFFF 0x8000_0001) = false ∧
    exactValue 0x7F7F_FFFF + exactValue 0x8000_0001 ≠ 0 := by
  unfold IsFinite
  decide

theorem witness_AddRoundsToNearestEven_exact_zero : IsFinite 0x8000_0000 ∧ IsFinite 0 ∧
    exactValue 0x8000_0000 + exactValue 0x8000_0000 = 0 ∧ exactValue 0x8000_0000 - exactValue 0 = 0 := by
  unfold IsFinite
  decide

theorem witness_AddRoundsToNearestEven_infinite : isInf 0x7F80_0000 = true ∧ isNaN 0x7F80_0000 = false ∧
    ¬ (isInf 0x7F80_0000 = true ∧ signBit 0x7F80_0000 ≠ signBit 0x7F80_0000) ∧
    ¬ (isInf 0xFF80_0000 = true ∧ signBit 0xFF80_0000 = signBit 0x7F80_0000) ∧ isNaN 0xFF80_0000 = false ∧
    IsFinite 0x7F7F_FFFF ∧ isInf 0xFF80_0000 = true := by
  unfold IsFinite
  decide

/-- A negative zero product, infinity times two, infinity over two and one over infinity. -/
theorem witness_MultiplyDivideRoundToNearestEven_signs : isNaN (fmul32 0x8000_0000 0x40A0_0000) = false ∧
    (isNaN (fmul32 0x7F80_0000 0x4000_0000) = false ∧ isInf 0x7F80_0000 = true) ∧ isNaN (fmul32 0x4000_0000 0xFF80_0000) = false ∧
    isNaN (fdiv32 0x7F80_0000 0x4000_0000) = false ∧ isNaN (fdiv32 0x3F80_0000 0x7F80_0000) = false := by decide

theorem witness_MultiplyDivideRoundToNearestEven : IsFinite 0x7F7F_FFFF ∧ IsFinite 0x8000_0001 ∧ isZero 0x8000_0001 = false ∧
    isInf (fdiv32 0x7F7F_FFFF 0x8000_0001) = true ∧ isInf (fmul32 0x8000_0001 0x8000_0001) = false ∧
    exactValue 0x8000_0001 * exactValue 0x8000_0001 ≠ 0 := by
  unfold IsFinite
  decide

theorem witness_IntegerToFloat : (regs start [(1, 0x8000_0000)]).reg 1 ≠ 0 ∧ start.reg 1 = 0 := by decide

/-- Infinity in the last lane of one quad, minus infinity in that of the other. -/
def lanes : State := ((start.setQuad 29 ⟨0, 0, 0, 0x7F80_0000⟩).setQuad 8 ⟨0, 0, 0, 0xFF80_0000⟩)

theorem witness_FloatQuads : (∃ k : RegIdx, k.toNat < 4 ∧ isNaN (fadd32 (lanes.reg (29 + k)) (lanes.reg (8 + k))) = true) ∧
    (¬ ∃ k : RegIdx, k.toNat < 4 ∧ isNaN (fsub32 (lanes.reg (29 + k)) (lanes.reg (8 + k))) = true) ∧
    (∃ k : RegIdx, k.toNat < 4 ∧ isZero (lanes.reg (8 + k)) = true) ∧
    (¬ ∃ k : RegIdx, k.toNat < 4 ∧ isZero ((start.setQuad 8 ⟨1, 1, 1, 1⟩).reg (8 + k)) = true) :=
  ⟨⟨3, by decide⟩, by decide, ⟨0, by decide⟩, by decide⟩

/-- Page 4 at frame 5 writable, page 5 at frame 6 for the supervisor, page 6 at frame 7 to be read only, page 7 at no frame. -/
def table (p : Priv) : State :=
  mapped p 0x4FFF [(0x0001_0010, [0, 0, 0x50, 3, 0, 0, 0x60, 7, 0, 0, 0x70, 1])]

theorem witness_TranslateInstruction : Machine.translate (table .user) ((table .user).reg 1) .read = .ok 0x5FFF ∧ start.mmuEn = false ∧
    Machine.translate unmapped (unmapped.reg 1) .read = .error .pageFault ∧
    Machine.translate { unmapped with ptb := 0x0100_0000 } 0 .read = .error .addrError := by decide

/-- The address of byte k of the entry, and the entry, as TranslationChecks has them. -/
def entryAt (s : State) (va : Word) (k : Nat) : Nat := (s.ptb.toNat + va.toNat / 4096 * 4 + k) % 2 ^ 32
def entry (s : State) (va : Word) : Nat :=
  (s.mem.read (entryAt s va 0)).toNat * 2 ^ 24 + (s.mem.read (entryAt s va 1)).toNat * 2 ^ 16 +
    (s.mem.read (entryAt s va 2)).toNat * 2 ^ 8 + (s.mem.read (entryAt s va 3)).toNat

theorem witness_TranslationChecks_reach : start.mmuEn = false ∧ (table .user).mmuEn = true ∧
    (∃ k < 4, ({ unmapped with ptb := 0x00FF_F000 } : State).memSize ≤ entryAt { unmapped with ptb := 0x00FF_F000 } 0x0040_0000 k) ∧
    (∀ k < 4, entryAt { unmapped with ptb := 0x00FF_F000 } 0x003F_F000 k < ({ unmapped with ptb := 0x00FF_F000 } : State).memSize) := by
  decide

theorem witness_TranslationChecks_entry :
    (entry (table .user) 0x7000).testBit 0 = false ∧
    ((entry (table .user) 0x5000).testBit 0 = true ∧ (entry (table .user) 0x5000).testBit 2 = true ∧ (table .user).priv = .user) ∧
    ((entry (table .user) 0x6000).testBit 0 = true ∧ (entry (table .user) 0x6000).testBit 2 = false ∧
      (entry (table .user) 0x6000).testBit 1 = false) ∧
    ((entry (table .supervisor) 0x5FFF).testBit 0 = true ∧ (entry (table .supervisor) 0x5FFF).testBit 1 = true ∧
      (table .supervisor).priv = .supervisor) := by decide

theorem witness_ByteAccess : Machine.translate start 0x00FF_FFFF .read = .ok 0x00FF_FFFF ∧ Machine.translate start 0x00FF_FFFF .write = .ok 0x00FF_FFFF ∧
    (0x00FF_FFFF : Word).toNat < start.memSize ∧ Machine.translate start 0x0100_0000 .read = .ok 0x0100_0000 ∧
    Machine.translate start 0x0100_0000 .write = .ok 0x0100_0000 ∧ start.memSize ≤ (0x0100_0000 : Word).toNat := by decide

theorem witness_ByteAccess_translation_fails : Machine.translate unmapped 0 .read = .error .pageFault ∧
    Machine.translate (table .user) 0x6000 .write = .error .writeProtect ∧
    Machine.translate { unmapped with ptb := 0x0100_0000 } 0 .write = .error .addrError := by decide

theorem witness_LoadsOfOneRegister : BytesRead (data 0x101) ((data 0x101).reg 1 + BitVec.ofInt 32 (0 : BitVec 16).toInt) 4
      (fun k => [0x22, 0x33, 0x44, 0x55].getD k 0) ∧
    (BytesRead start 0x00FF_FFFD 3 (fun _ => 0) ∧ readByte start (0x00FF_FFFD + BitVec.ofNat 32 3) = .error .addrError) ∧
    (BytesRead unmapped 0 0 (fun _ => 0) ∧ readByte unmapped (0 + BitVec.ofNat 32 0) = .error .pageFault) := by
  unfold BytesRead
  decide

theorem witness_LoadDouble : BytesRead start 0x00FF_FFF8 8 (fun _ => 0) ∧
    (BytesRead start 0x00FF_FFF9 7 (fun _ => 0) ∧ readByte start (0x00FF_FFF9 + BitVec.ofNat 32 7) = .error .addrError) ∧
    (BytesRead start 0x00FF_FFFC 4 (fun _ => 0) ∧ readByte start (0x00FF_FFFC + BitVec.ofNat 32 4) = .error .addrError) ∧
    (BytesRead start 0x00FF_FFFD 3 (fun _ => 0) ∧ readByte start (0x00FF_FFFD + BitVec.ofNat 32 3) = .error .addrError) ∧
    (BytesRead start 0x0100_0000 0 (fun _ => 0) ∧ readByte start (0x0100_0000 + BitVec.ofNat 32 0) = .error .addrError) := by
  unfold BytesRead
  decide

/-- The states a store's bytes lead through. -/
def chainOf (s : State) (ea : Word) (b : Nat → Byte) : Nat → State
  | 0 => s
  | k + 1 =>
    match writeByte (chainOf s ea b k) (ea + BitVec.ofNat 32 k) (b k) with
    | .ok t => t
    | .error _ => start

theorem witness_StoresByteByByte :
    BytesWritten start 0x00FF_FFF8 8 (bigEndianByte ((0x1122_3344 : Word) ++ (0x5566_7788 : Word)) 8)
      (chainOf start 0x00FF_FFF8 (bigEndianByte ((0x1122_3344 : Word) ++ (0x5566_7788 : Word)) 8)) ∧
    (BytesWritten start 0x00FF_FFFD 3 (bigEndianByte (0xAABB_CCDD : Word) 4)
        (chainOf start 0x00FF_FFFD (bigEndianByte (0xAABB_CCDD : Word) 4)) ∧
      writeByte (chainOf start 0x00FF_FFFD (bigEndianByte (0xAABB_CCDD : Word) 4) 3) (0x00FF_FFFD + BitVec.ofNat 32 3)
        (bigEndianByte (0xAABB_CCDD : Word) 4 3) = .error .addrError) ∧
    writeByte (table .user) (0x6000 + BitVec.ofNat 32 0) 1 = .error .writeProtect := by
  unfold BytesWritten
  decide

theorem witness_StoresWithMmuOff : InMemory start 0x00FF_FFFF 1 ∧ InMemory start 0x00FF_FFFE 2 ∧ InMemory start 0x00FF_FFFC 4 ∧
    InMemory start 0x00FF_FFF8 8 ∧ InMemory start 0 8 := by
  unfold InMemory
  decide

theorem witness_StoresChangeOnlyTranslatedBytes :
    exec (.std 4 1 0) writer = .next (outOf (exec (.std 4 1 0) writer)) ∧
    ∀ k < 8, ∀ pa, Machine.translate (memWrite writer 0x2001 ((bytesOf 4 (writer.reg 4) ++ bytesOf 4 (writer.reg 5)).take k)).1
      (0x2001 + BitVec.ofNat 32 k) .write = .ok pa → 0x2000 ≠ pa.toNat := by
  refine ⟨eq_next _ (by decide), fun k hk pa h => ?_⟩
  have ht : ∀ k < 8, Machine.translate (memWrite writer 0x2001 ((bytesOf 4 (writer.reg 4) ++ bytesOf 4 (writer.reg 5)).take k)).1
      (0x2001 + BitVec.ofNat 32 k) .write = .ok (0x2001 + BitVec.ofNat 32 k) := by decide
  have hne : ∀ k < 8, 0x2000 ≠ (0x2001 + BitVec.ofNat 32 k : Word).toNat := by decide
  rw [ht k hk] at h
  cases h
  exact hne k hk

theorem witness_StoreThenLoadReturnsValue_mmu_off : InMemory (data 0x101) ((data 0x101).effectiveAddress 1 0) 1 ∧
    InMemory (data 0x00FF_FFFE) ((data 0x00FF_FFFE).effectiveAddress 1 0) 2 ∧
    InMemory (data 0x0FFE) ((data 0x0FFE).effectiveAddress 1 0) 4 ∧
    InMemory (data 0x00FF_FFF8) ((data 0x00FF_FFF8).effectiveAddress 1 0) 8 := by
  unfold InMemory
  decide

/-- Eight bytes across two mapped pages, and none of them in the table. -/
theorem witness_StoreThenLoadReturnsValue_mmu_on : Accessible (table .supervisor) 0x4FFC 8 := by
  refine .inr ⟨by decide, fun k => 0x5FFC + BitVec.ofNat 32 k, ?_, ?_⟩ <;> decide

end Sys2Proof.Tests
end

/-! SUPPORT and PROOFS. What one instruction can do to the state, said once (`exec_effect`), and the statements about the invariant, the
flags and the special state of 10_state.md that follow from it. -/

namespace Sys2Proof.Proofs

open Sys2Proof Sys2Proof.Machine Sys2Proof.Claims

/-! ## CR0 under an instruction other than stcr -/

/-- How CR0 changes when it is not written as a whole: only the compare bits 7:0 may be cleared (10_state.md R25-R28), and only defined
bits may be set (R29). -/
structure Cr0Evolves (c d : Word) : Prop where
  sticky : ∀ b, 8 ≤ b → c.getLsbD b = true → d.getLsbD b = true
  defined : ∀ b, d.getLsbD b = true → c.getLsbD b = true ∨ cr0Defined.getLsbD b = true

theorem Cr0Evolves.refl (c : Word) : Cr0Evolves c c := ⟨fun _ _ h => h, fun _ h => .inl h⟩

theorem Cr0Evolves.trans {c d e : Word} (h : Cr0Evolves c d) (h' : Cr0Evolves d e) : Cr0Evolves c e where
  sticky b hb hc := h'.sticky b hb (h.sticky b hb hc)
  defined b he := (h'.defined b he).elim (h.defined b) .inr

theorem flag_mask_getLsbD (f : Flag) (b : Nat) : f.mask.getLsbD b = true ↔ f.bit = b := by
  have : f.bit < 32 := by cases f <;> decide
  simp [Flag.mask, BitVec.getLsbD_twoPow, this]

theorem flag_bit_defined (f : Flag) : cr0Defined.getLsbD f.bit = true := by cases f <;> decide

theorem cr0Evolves_or_mask (c : Word) (f : Flag) : Cr0Evolves c (c ||| f.mask) where
  sticky b _ hc := by simp [hc]
  defined b hd := by
    rw [BitVec.getLsbD_or, Bool.or_eq_true, flag_mask_getLsbD] at hd
    obtain hc | rfl := hd
    · exact .inl hc
    · exact .inr (flag_bit_defined f)

/-- Bits of the compare fields may be cleared. -/
theorem cr0Evolves_clear (c m : Word) (hm : ∀ b, 8 ≤ b → m.getLsbD b = false) : Cr0Evolves c (c &&& ~~~m) where
  sticky b hb hc := by
    rw [BitVec.getLsbD_and, BitVec.getLsbD_not, hc, hm b hb]
    simpa using BitVec.lt_of_getLsbD hc
  defined b hd := by
    rw [BitVec.getLsbD_and, Bool.and_eq_true] at hd
    exact .inl hd.1

theorem cr0Evolves_assignFlag (c : Word) (f : Flag) (v : Bool) (hf : f.bit < 8) : Cr0Evolves c (assignFlag c f v) := by
  cases v with
  | true => exact cr0Evolves_or_mask c f
  | false =>
    refine cr0Evolves_clear c f.mask fun b hb => ?_
    rw [Bool.eq_false_iff, Ne, flag_mask_getLsbD]
    omega

theorem floatCompareField_getLsbD_high (b : Nat) (hb : 8 ≤ b) : floatCompareField.getLsbD b = false := by
  rw [show floatCompareField = (0xF0 : BitVec 8).setWidth 32 from rfl, BitVec.getLsbD_setWidth, BitVec.getLsbD_of_ge _ _ hb,
    Bool.and_false]

/-- The reserved bits of a word are 0 exactly when every bit that is set is defined. -/
theorem reserved_zero_iff (c : Word) :
    c &&& ~~~cr0Defined = 0 ↔ ∀ b, c.getLsbD b = true → cr0Defined.getLsbD b = true := by
  constructor
  · intro h b hc
    have hb := congrArg (BitVec.getLsbD · b) h
    simpa [hc, BitVec.lt_of_getLsbD hc] using hb
  · intro h
    apply BitVec.eq_of_getLsbD_eq
    intro b hb
    cases hc : c.getLsbD b with
    | false => simp [hc]
    | true => simp [h b hc]

theorem Cr0Evolves.reserved_zero {c d : Word} (h : Cr0Evolves c d) (hc : c &&& ~~~cr0Defined = 0) : d &&& ~~~cr0Defined = 0 :=
  (reserved_zero_iff d).mpr fun b hd => (h.defined b hd).elim ((reserved_zero_iff c).mp hc b) id

theorem Cr0Evolves.flag_of_sticky {s t : State} (h : Cr0Evolves s.cr0 t.cr0) {f : Flag} (hf : 8 ≤ f.bit) (hs : s.flag f = true) :
    t.flag f = true := h.sticky f.bit hf hs

/-! ## The two effects that touch no special state -/

theorem sameSystem_trans {s t u : State} (h : SameSystem s t) (h' : SameSystem t u) : SameSystem s u where
  nip := h'.nip.trans h.nip
  fip := h'.fip.trans h.fip
  sxip := h'.sxip.trans h.sxip
  snip := h'.snip.trans h.snip
  sfip := h'.sfip.trans h.sfip
  tvec := h'.tvec.trans h.tvec
  ptb := h'.ptb.trans h.ptb
  mmuEn := h'.mmuEn.trans h.mmuEn
  priv := h'.priv.trans h.priv
  run := h'.run.trans h.run
  memSize := h'.memSize.trans h.memSize

/-- Only general registers, pc and CR0 change, and CR0 evolves. -/
structure OrdinaryEffect (s t : State) : Prop where
  system : SameSystem s t
  memory : t.mem = s.mem
  cr0 : Cr0Evolves s.cr0 t.cr0

/-- As `OrdinaryEffect`, with memory changed to a memory that is canonical and in range if the old one was. -/
structure StoreEffect (s t : State) : Prop where
  system : SameSystem s t
  canonical : s.mem.wf → t.mem.wf
  in_range : (∀ c ∈ s.mem, c.1 < s.memSize) → ∀ c ∈ t.mem, c.1 < t.memSize
  cr0 : Cr0Evolves s.cr0 t.cr0

/-- The fields an ordinary effect may write. -/
theorem ordinaryEffect_of_fields (s : State) (regs : Vector Word 32) (pc cr0 : Word) (freeCount : Nat) (h : Cr0Evolves s.cr0 cr0) :
    OrdinaryEffect s { s with regs := regs, pc := pc, cr0 := cr0, freeCount := freeCount } :=
  ⟨⟨rfl, rfl, rfl, rfl, rfl, rfl, rfl, rfl, rfl, rfl, rfl⟩, rfl, h⟩

theorem OrdinaryEffect.refl (s : State) : OrdinaryEffect s s := ordinaryEffect_of_fields s _ _ _ _ (.refl _)

theorem OrdinaryEffect.trans {s t u : State} (h : OrdinaryEffect s t) (h' : OrdinaryEffect t u) : OrdinaryEffect s u :=
  ⟨sameSystem_trans h.system h'.system, h'.memory.trans h.memory, h.cr0.trans h'.cr0⟩

theorem OrdinaryEffect.toStore {s t : State} (h : OrdinaryEffect s t) : StoreEffect s t where
  system := h.system
  canonical hs := h.memory ▸ hs
  in_range hs := by rw [h.memory, h.system.memSize]; exact hs
  cr0 := h.cr0

theorem StoreEffect.trans {s t u : State} (h : StoreEffect s t) (h' : StoreEffect t u) : StoreEffect s u :=
  ⟨sameSystem_trans h.system h'.system, h'.canonical ∘ h.canonical, h'.in_range ∘ h.in_range, h.cr0.trans h'.cr0⟩

/-! ## The updates of the state -/

section Updates

variable {s u : State} (h : OrdinaryEffect s u)
include h

theorem OrdinaryEffect.setReg (r : RegIdx) (v : Word) : OrdinaryEffect s (u.setReg r v) :=
  h.trans (ordinaryEffect_of_fields u _ _ _ _ (.refl _))

theorem OrdinaryEffect.setPair (r : RegIdx) (hi lo : Word) : OrdinaryEffect s (u.setPair r hi lo) :=
  (h.setReg r hi).setReg (r + 1) lo

theorem OrdinaryEffect.setQuad (r : RegIdx) (q : Quad) : OrdinaryEffect s (u.setQuad r q) :=
  (((h.setReg r q.lane0).setReg (r + 1) q.lane1).setReg (r + 2) q.lane2).setReg (r + 3) q.lane3

theorem OrdinaryEffect.setFlag (f : Flag) : OrdinaryEffect s (u.setFlag f) :=
  h.trans (ordinaryEffect_of_fields u _ _ _ _ (cr0Evolves_or_mask u.cr0 f))

theorem OrdinaryEffect.setFlagIf (c : Bool) (f : Flag) : OrdinaryEffect s (u.setFlagIf c f) := by
  cases c with
  | false => exact h
  | true => exact h.setFlag f

theorem OrdinaryEffect.setRangeFlags (a b r : Word) : OrdinaryEffect s (u.setRangeFlags a b r) :=
  (h.setFlagIf (ofCond a b r) .OF).setFlagIf (ufCond a b r) .UF

theorem OrdinaryEffect.setIntCompare (eq lt gt : Bool) : OrdinaryEffect s (u.setIntCompare eq lt gt) :=
  h.trans (ordinaryEffect_of_fields u _ _ _ _
    (((cr0Evolves_assignFlag _ .EQ eq (by decide)).trans (cr0Evolves_assignFlag _ .LT lt (by decide))).trans
      (cr0Evolves_assignFlag _ .GT gt (by decide))))

theorem OrdinaryEffect.setFloatCompare (f : Flag) : OrdinaryEffect s (u.setFloatCompare f) :=
  h.trans (ordinaryEffect_of_fields u _ _ _ _
    ((cr0Evolves_clear u.cr0 floatCompareField floatCompareField_getLsbD_high).trans (cr0Evolves_or_mask _ f)))

theorem OrdinaryEffect.advance : OrdinaryEffect s u.advance :=
  h.trans (ordinaryEffect_of_fields u _ _ _ _ (.refl _))

theorem OrdinaryEffect.redirect (a : Word) : OrdinaryEffect s (u.redirect a) :=
  h.trans (ordinaryEffect_of_fields u _ _ _ _ (.refl _))

theorem OrdinaryEffect.drawFree : OrdinaryEffect s u.drawFree.2 :=
  h.trans (ordinaryEffect_of_fields u _ _ _ _ (.refl _))

theorem OrdinaryEffect.takeException (f : Flag) : OrdinaryEffect s (u.takeException f) :=
  (h.setFlag f).advance

/-! ## The shared ends of instructions, entered from a state `u` that an ordinary effect has led to -/

variable {t : State}

theorem OrdinaryEffect.finish (ht : Machine.finish u = .next t) : OrdinaryEffect s t :=
  (finish_next u t).mp ht ▸ h.advance

theorem OrdinaryEffect.writeBack {rd : RegIdx} {v : Word} (ht : Machine.writeBack rd v u = .next t) : OrdinaryEffect s t :=
  (writeBack_next rd v u t).mp ht ▸ (h.setReg rd v).advance

theorem OrdinaryEffect.loadRegister {n : Nat} {ext : Word → Word} {rd : RegIdx} {ea : Word}
    (ht : Machine.loadRegister n ext rd ea u = .next t) : OrdinaryEffect s t := by
  obtain ⟨e, -, rfl⟩ | ⟨v, -, rfl⟩ := (loadRegister_next n ext rd ea u t).mp ht
  · exact h.takeException e.flag
  · exact (h.setReg rd (ext v)).advance

end Updates

/-! ## Instructions with an ordinary effect that is more than one shared end -/

section Ordinary

variable {s t : State}

theorem divideInto_ordinary {f : Word → Word → Word} {rd rs1 rs2 : RegIdx} (h : divideInto f rd rs1 rs2 s = .next t) :
    OrdinaryEffect s t :=
  ((OrdinaryEffect.refl s).setFlagIf (s.reg rs2 == 0) .DZ).writeBack h

theorem writeProduct_ordinary {rd : RegIdx} {p : BitVec 64} (h : writeProduct rd p s = .next t) : OrdinaryEffect s t :=
  ((OrdinaryEffect.refl s).setPair rd _ _).finish h

theorem floatLanes_ordinary {f : Word → Word → Word} {rd rs1 rs2 : RegIdx} (h : floatLanes f rd rs1 rs2 s = .next t) :
    OrdinaryEffect s t :=
  (((OrdinaryEffect.refl s).setFlagIf _ .NV).setQuad rd _).finish h

theorem branchWhen_ordinary {taken : Bool} {off : BitVec 16} (h : branchWhen taken off s = .next t) : OrdinaryEffect s t := by
  obtain ⟨-, rfl⟩ | ⟨-, rfl⟩ := (branchWhen_next taken off s t).mp h
  · exact (OrdinaryEffect.refl s).redirect _
  · exact (OrdinaryEffect.refl s).advance

theorem execDivud_ordinary {rd rs1 rs2 : RegIdx} (h : execDivud rd rs1 rs2 s = .next t) : OrdinaryEffect s t := by
  simp only [execDivud] at h
  split at h
  · exact (((OrdinaryEffect.refl s).setFlag .DZ).setPair rd 0 0).finish h
  · exact ((OrdinaryEffect.refl s).setPair rd _ _).finish h

theorem execTbnd_ordinary {rs1 rs2 : RegIdx} (h : execTbnd rs1 rs2 s = .next t) : OrdinaryEffect s t := by
  unfold execTbnd at h
  split at h
  · cases h
    exact (OrdinaryEffect.refl s).takeException .BND
  · exact (OrdinaryEffect.refl s).finish h

theorem execFdiv_ordinary {rd rs1 rs2 : RegIdx} (h : execFdiv rd rs1 rs2 s = .next t) : OrdinaryEffect s t := by
  simp only [execFdiv] at h
  split at h
  · split at h
    · exact (((OrdinaryEffect.refl s).setFlag .NV).setFlag .DZ).writeBack h
    · exact ((OrdinaryEffect.refl s).setFlag .DZ).writeBack h
  · exact ((OrdinaryEffect.refl s).setRangeFlags _ _ _).writeBack h

theorem execInt_ordinary {rd rs1 : RegIdx} (h : execInt rd rs1 s = .next t) : OrdinaryEffect s t := by
  simp only [execInt] at h
  split at h
  · exact ((OrdinaryEffect.refl s).setFlag .NV).writeBack h
  split at h
  · exact ((OrdinaryEffect.refl s).setFlag .OF).writeBack h
  split at h
  · exact ((OrdinaryEffect.refl s).setFlag .OF).writeBack h
  · exact (OrdinaryEffect.refl s).writeBack h

theorem execXlate_ordinary {rd rs1 : RegIdx} (h : execXlate rd rs1 s = .next t) : OrdinaryEffect s t := by
  unfold execXlate at h
  split at h
  · exact (OrdinaryEffect.refl s).writeBack h
  · cases h
    exact ((OrdinaryEffect.refl s).drawFree.setReg rd _).takeException _

theorem execLdd_ordinary {rd rs1 : RegIdx} {imm : BitVec 16} (h : execLdd rd rs1 imm s = .next t) : OrdinaryEffect s t := by
  simp only [execLdd] at h
  split at h
  · cases h
    exact (OrdinaryEffect.refl s).takeException _
  · exact ((OrdinaryEffect.refl s).setReg rd _).loadRegister h

end Ordinary

/-! ## Stores -/

theorem memWrite_effect (s : State) (va : Word) (bs : List Byte) : StoreEffect s (memWrite s va bs).1 := by
  obtain ⟨m, hm, hwf, hr⟩ := memWrite_memory bs s va
  rw [hm]
  exact ⟨⟨rfl, rfl, rfl, rfl, rfl, rfl, rfl, rfl, rfl, rfl, rfl⟩, hwf, hr, .refl _⟩

theorem storeBytes_effect {ea : Word} {bs : List Byte} {s t : State} (h : storeBytes ea bs s = .next t) : StoreEffect s t := by
  refine (memWrite_effect s ea bs).trans (OrdinaryEffect.toStore ?_)
  obtain ⟨-, rfl⟩ | ⟨e, -, rfl⟩ := (storeBytes_next ea bs s t).mp h
  · exact (OrdinaryEffect.refl _).advance
  · exact (OrdinaryEffect.refl _).takeException e.flag

theorem execStd_effect {rs rs1 : RegIdx} {imm : BitVec 16} {s t : State} (h : execStd rs rs1 imm s = .next t) :
    StoreEffect s t := by
  have first := memWrite_effect s (s.effectiveAddress rs1 imm) (bytesOf 4 (s.reg rs))
  simp only [execStd] at h
  split at h
  case h_1 u e hu =>
    rw [hu] at first
    cases h
    exact first.trans ((OrdinaryEffect.refl u).takeException e.flag).toStore
  case h_2 u hu =>
    rw [hu] at first
    exact first.trans (storeBytes_effect h)

/-! ## Every instruction -/

/-- The four instructions that write memory (45_loadstore.md R328-R331). -/
def IsStore (i : Instr) : Prop :=
  ∃ rs r imm, i = .stb rs r imm ∨ i = .sth rs r imm ∨ i = .stw rs r imm ∨ i = .std rs r imm

/-- The next states an instruction may answer: an ordinary effect, a store, or one of the writes of special state
(10_state.md R32, R35-R37). -/
inductive ExecEffect : Instr → State → State → Prop where
  | ordinary {i : Instr} {s t : State} (h : OrdinaryEffect s t) : ExecEffect i s t
  | store {i : Instr} {s t : State} (hi : IsStore i) (h : StoreEffect s t) : ExecEffect i s t
  | trap (vec : BitVec 9) (s : State) : ExecEffect (.trap vec) s (({ s with tvec := vec } : State).takeException .TRP)
  | rte {s : State} (hp : s.priv = .supervisor) : ExecEffect .rte s s.returnFromException
  | stcrCr0 {rs1 : RegIdx} {s : State} (hp : s.priv = .supervisor) :
      ExecEffect (.stcr rs1 0) s (s.writeCr0 (s.reg rs1)).advance
  | stcrTvec {rs1 : RegIdx} {s : State} (hp : s.priv = .supervisor) :
      ExecEffect (.stcr rs1 1) s ({ s with tvec := (s.reg rs1).setWidth 9 } : State).advance
  | ldptb {rs1 : RegIdx} {s : State} (hp : s.priv = .supervisor) :
      ExecEffect (.ldptb rs1) s ({ s with ptb := alignedBase (s.reg rs1), mmuEn := true } : State).advance
  | tlbinv {s : State} (hp : s.priv = .supervisor) : ExecEffect .tlbinv s ({ s with mmuEn := false } : State).advance
  | illegalControlRegister {i : Instr} (s : State) (hi : i.wellFormed = false) : ExecEffect i s (s.halt .illegal)

/-- In User mode a supervisor-only instruction takes its exception, which is an ordinary effect. -/
theorem supervisorOnly_effect {i : Instr} {s e t : State} (h : supervisorOnly s e = .next t)
    (he : s.priv = .supervisor → ExecEffect i s e) : ExecEffect i s t := by
  obtain ⟨-, rfl⟩ | ⟨hp, rfl⟩ := (supervisorOnly_next s e t).mp h
  · exact .ordinary ((OrdinaryEffect.refl s).takeException .PRV)
  · exact he hp

theorem crLegal_eq_false {crN : BitVec 5} (h0 : crN ≠ 0) (h1 : crN ≠ 1) : crLegal crN = false := by
  simpa [crLegal] using And.intro h0 h1

theorem execLdcr_effect {rd : RegIdx} {crN : BitVec 5} {s t : State} (h : execLdcr rd crN s = .next t) :
    ExecEffect (.ldcr rd crN) s t := by
  unfold execLdcr at h
  split at h
  · exact .ordinary ((OrdinaryEffect.refl s).writeBack h)
  case isFalse h0 =>
    split at h
    · exact .ordinary ((OrdinaryEffect.refl s).writeBack h)
    case isFalse h1 =>
      cases h
      exact .illegalControlRegister s (crLegal_eq_false h0 h1)

theorem execStcr_effect {rs1 : RegIdx} {crN : BitVec 5} {s t : State} (h : execStcr rs1 crN s = .next t) :
    ExecEffect (.stcr rs1 crN) s t := by
  unfold execStcr at h
  split at h
  case isTrue h0 =>
    subst h0
    exact supervisorOnly_effect h .stcrCr0
  case isFalse h0 =>
    split at h
    case isTrue h1 =>
      subst h1
      exact supervisorOnly_effect h .stcrTvec
    case isFalse h1 =>
      cases h
      exact .illegalControlRegister s (crLegal_eq_false h0 h1)

/-- The inversion of `exec`: all that an instruction can do to the state. -/
theorem exec_effect {i : Instr} {s t : State} (h : exec i s = .next t) : ExecEffect i s t := by
  have start := OrdinaryEffect.refl s
  cases i with
  | addi | andi | ori | xori | oru | add | sub | mul | and | or | xor | extu | mak | rot | ff1 | ff0 | sextb | zextb | sexth | zexth
  | flt | vcmpeq | vcmpgt | vcmplt | vmin | vmax | vshuf | vinth | vintl | vextb | vextbi | vinsb | vinsbi | vpack | vunpkl
  | vunpkh => exact .ordinary (start.writeBack h)
  | div | divu | rem | remu => exact .ordinary (divideInto_ordinary h)
  | muls | mulu => exact .ordinary (writeProduct_ordinary h)
  | divud => exact .ordinary (execDivud_ordinary h)
  | cmp | cmpu => exact .ordinary ((start.setIntCompare _ _ _).finish h)
  | ldb | ldbu | ldh | ldhu | ldw => exact .ordinary (start.loadRegister h)
  | ldd => exact .ordinary (execLdd_ordinary h)
  | stb rs rs1 imm | sth rs rs1 imm | stw rs rs1 imm => exact .store ⟨rs, rs1, imm, by simp⟩ (storeBytes_effect h)
  | std rs rs1 imm => exact .store ⟨rs, rs1, imm, by simp⟩ (execStd_effect h)
  | beq | bne | blt | bge | bgt | ble => exact .ordinary (branchWhen_ordinary h)
  | trap vec => cases h; exact .trap vec s
  | jmp rs1 => cases h; exact .ordinary (start.redirect _)
  | jsr rs1 => cases h; exact .ordinary ((start.setReg rs1 _).redirect _)
  | tbnd => exact .ordinary (execTbnd_ordinary h)
  | rte => exact supervisorOnly_effect h .rte
  | ldcr => exact execLdcr_effect h
  | stcr => exact execStcr_effect h
  | fadd | fmul => exact .ordinary ((start.setRangeFlags _ _ _).writeBack h)
  | fsub => exact .ordinary ((start.setFlagIf _ .NV).writeBack h)
  | fdiv => exact .ordinary (execFdiv_ordinary h)
  | fcmp => exact .ordinary ((start.setFloatCompare _).finish h)
  | int => exact .ordinary (execInt_ordinary h)
  | vadd | vsub | vmul => exact .ordinary (floatLanes_ordinary h)
  | vdiv rd => exact .ordinary (((start.setFlagIf _ .DZ).setQuad rd _).finish h)
  | vmov rd => exact .ordinary ((start.setQuad rd _).finish h)
  | icache | dcache | flush | inval => exact supervisorOnly_effect h fun _ => .ordinary start.advance
  | prefetch => exact .ordinary (start.finish h)
  | ldptb => exact supervisorOnly_effect h .ldptb
  | tlbinv => exact supervisorOnly_effect h .tlbinv
  | xlate => exact .ordinary (execXlate_ordinary h)

/-- A step halts the core in a decoder event or has the effect of the instruction it has fetched. -/
theorem step_effect {s t : State} (h : step s = .next t) :
    (∃ r, t = s.halt r) ∨ ∃ w i, fetch s = .ok w ∧ decode w = .ok i ∧ ExecEffect i s t := by
  obtain ⟨-, ⟨r, -, ht⟩ | ⟨_, _, -, -, ht⟩ | ⟨w, i, hw, hi, ht⟩⟩ := (step_next s t).mp h
  · exact .inl ⟨r, ht⟩
  · exact .inl ⟨.illegal, ht⟩
  · exact .inr ⟨w, i, hw, hi, exec_effect ht⟩

/-! ## The invariant -/

theorem alignedBase_low (v : Word) : (alignedBase v).extractLsb' 0 12 = 0 := by
  rw [alignedBase, BitVec.extractLsb'_and]
  exact BitVec.and_zero

theorem writeCr0_reserved (v : Word) : (v &&& cr0Defined) &&& ~~~cr0Defined = 0 := by
  rw [BitVec.and_assoc, BitVec.and_not_self]
  exact BitVec.and_zero

theorem storeEffect_inv {s t : State} (h : StoreEffect s t) (hs : s.Inv) : t.Inv where
  memory_canonical := h.canonical hs.memory_canonical
  memory_in_range := h.in_range hs.memory_in_range
  cr0_reserved_zero := h.cr0.reserved_zero hs.cr0_reserved_zero
  ptb_aligned := h.system.ptb ▸ hs.ptb_aligned

/-- The invariant speaks of memory, CR0 and ptb, and not of run. -/
theorem halt_inv {s : State} (r : HaltReason) (hs : s.Inv) : (s.halt r).Inv where
  memory_canonical := hs.memory_canonical
  memory_in_range := hs.memory_in_range
  cr0_reserved_zero := (cr0Evolves_or_mask s.cr0 r.flag).reserved_zero hs.cr0_reserved_zero
  ptb_aligned := hs.ptb_aligned

theorem execEffect_inv {i : Instr} {s t : State} (h : ExecEffect i s t) (hs : s.Inv) : t.Inv := by
  have ⟨canonical, in_range, reserved, aligned⟩ := hs
  cases h with
  | ordinary h => exact storeEffect_inv h.toStore hs
  | store _ h => exact storeEffect_inv h hs
  | trap vec => exact ⟨canonical, in_range, (cr0Evolves_or_mask s.cr0 .TRP).reserved_zero reserved, aligned⟩
  | rte | stcrTvec | tlbinv => exact ⟨canonical, in_range, reserved, aligned⟩
  | stcrCr0 => exact ⟨canonical, in_range, writeCr0_reserved _, aligned⟩
  | ldptb => exact ⟨canonical, in_range, reserved, alignedBase_low _⟩
  | illegalControlRegister => exact halt_inv .illegal hs

/-- Settles O14: a decoder event keeps the invariant, and so does every effect of an instruction. -/
theorem stepKeepsInvariant : Obligations.StepKeepsInvariant := by
  intro s t hs h
  obtain ⟨r, rfl⟩ | ⟨w, i, -, -, he⟩ := step_effect h
  · exact halt_inv r hs
  · exact execEffect_inv he hs

/-! ## Sticky and exception flags -/

/-- Every effect but that of `stcr cr0` lets CR0 evolve. -/
theorem execEffect_cr0 {i : Instr} {s t : State} (h : ExecEffect i s t) :
    Cr0Evolves s.cr0 t.cr0 ∨ (s.priv = .supervisor ∧ ∃ rs1, i = .stcr rs1 0) := by
  cases h with
  | ordinary h => exact .inl h.cr0
  | store _ h => exact .inl h.cr0
  | trap => exact .inl (cr0Evolves_or_mask _ .TRP)
  | stcrCr0 hp => exact .inr ⟨hp, _, rfl⟩
  | rte | stcrTvec | ldptb | tlbinv => exact .inl (.refl _)
  | illegalControlRegister => exact .inl (cr0Evolves_or_mask _ _)

/-- Settles O17: a flag above the compare fields stays set while CR0 evolves, so a step that clears one is a Supervisor `stcr cr0`. -/
theorem onlyStcrClearsStickyFlags : Obligations.OnlyStcrClearsStickyFlags := by
  intro s t f hf h hs ht
  have high : 8 ≤ f.bit := by
    have all : ∀ g ∈ [Flag.DZ, .NX, .NV, .OF, .UF, .BND, .TRP, .PF, .WP, .PRV, .AE, .ILL], 8 ≤ g.bit := by decide
    exact all f hf
  have not_evolved : ¬ Cr0Evolves s.cr0 t.cr0 := fun hc => by
    rw [hc.flag_of_sticky high hs] at ht
    cases ht
  obtain ⟨r, rfl⟩ | ⟨w, i, hw, hi, he⟩ := step_effect h
  · exact absurd (cr0Evolves_or_mask s.cr0 r.flag) not_evolved
  · obtain hc | ⟨hp, rs1, rfl⟩ := execEffect_cr0 he
    · exact absurd hc not_evolved
    · exact ⟨hp, w, rs1, hw, hi⟩

/-! ## Privilege, shadow pointers and special state -/

theorem execEffect_keeps {i : Instr} {s t : State} (h : ExecEffect i s t) :
    t.priv = s.priv ∧ t.sxip = s.sxip ∧ t.snip = s.snip ∧ t.sfip = s.sfip ∧ t.memSize = s.memSize := by
  cases h with
  | ordinary h => exact ⟨h.system.priv, h.system.sxip, h.system.snip, h.system.sfip, h.system.memSize⟩
  | store _ h => exact ⟨h.system.priv, h.system.sxip, h.system.snip, h.system.sfip, h.system.memSize⟩
  | trap | rte | stcrCr0 | stcrTvec | ldptb | tlbinv | illegalControlRegister => exact ⟨rfl, rfl, rfl, rfl, rfl⟩

/-- Settles O16: no effect writes these fields, and a halt does not. -/
theorem stepKeepsPrivilegeAndShadows : Obligations.StepKeepsPrivilegeAndShadows := by
  intro s t h
  obtain ⟨r, rfl⟩ | ⟨w, i, -, -, he⟩ := step_effect h
  · exact ⟨rfl, rfl, rfl, rfl, rfl⟩
  · exact execEffect_keeps he

/-- Settles O18, effect by effect: each writes at most the special state its instruction is named for. -/
theorem writersOfSpecialState : Obligations.WritersOfSpecialState := by
  intro i s t h
  cases exec_effect h with
  | ordinary h =>
    obtain ⟨system, memory, -⟩ := h
    simp [system.nip, system.fip, system.tvec, system.ptb, system.mmuEn, memory]
  | store hi h =>
    have system := h.system
    simp only [system.nip, system.fip, system.tvec, system.ptb, system.mmuEn, ne_eq, not_true_eq_false, or_self,
      false_implies, true_and]
    exact fun _ => hi
  | trap vec => simp
  | rte hp => simp [hp]
  | stcrCr0 hp => simp
  | stcrTvec hp => simp [hp]
  | ldptb hp => simp [hp]
  | tlbinv hp => simp [hp]
  | illegalControlRegister => simp

end Sys2Proof.Proofs

/-! SUPPORT and PROOFS. Address translation and the access of one byte (20_memory.md R62-R71): the word the walker reads, as the number
its bytes make, the checks on it one by one, and the byte at the translated address. -/

namespace Sys2Proof.Proofs

open Sys2Proof Sys2Proof.Machine Sys2Proof.Claims

/-! ## The page-table entry as a number -/

/-- Byte `k` of the entry lies at `ptb + 4 * va[31:12] + k`, modulo 2^32. -/
theorem pteAddress_add_toNat (ptb va : Word) (k : Nat) :
    (pteAddress ptb va + BitVec.ofNat 32 k).toNat = (ptb.toNat + va.toNat / 4096 * 4 + k) % 2 ^ 32 := by
  have index : ((pageIndex va).setWidth 32).toNat = va.toNat / 4096 := by
    simp only [pageIndex, BitVec.toNat_setWidth, BitVec.extractLsb'_toNat, Nat.shiftRight_eq_div_pow]
    omega
  simp only [pteAddress, BitVec.toNat_add, BitVec.toNat_mul, index, BitVec.toNat_ofNat, show (4 : Word).toNat = 4 from rfl]
  omega

theorem append_toNat {n m : Nat} (x : BitVec n) (y : BitVec m) : (x ++ y).toNat = x.toNat * 2 ^ m + y.toNat := by
  rw [BitVec.toNat_append, Nat.shiftLeft_eq, Nat.mul_comm, Nat.two_pow_add_eq_or_of_lt y.isLt]

theorem bigEndian_toNat (b0 b1 b2 b3 : Byte) :
    (b0 ++ b1 ++ b2 ++ b3).toNat = b0.toNat * 2 ^ 24 + b1.toNat * 2 ^ 16 + b2.toNat * 2 ^ 8 + b3.toNat := by
  simp only [append_toNat]
  omega

theorem except_bind_ok {ε α β : Type} (x : Except ε α) (f : α → Except ε β) (r : β) :
    x >>= f = .ok r ↔ ∃ a, x = .ok a ∧ f a = .ok r := by
  cases x <;> simp [bind, Except.bind]

/-- The walker reads a word exactly when its four bytes lie in memory (20_memory.md R62, R63). -/
theorem physReadWord_ok (s : State) (pa w : Word) :
    physReadWord s pa = .ok w ↔ (∀ k < 4, (pa + BitVec.ofNat 32 k).toNat < s.memSize) ∧
      w = s.mem.read (pa + BitVec.ofNat 32 0).toNat ++ s.mem.read (pa + BitVec.ofNat 32 1).toNat ++
        s.mem.read (pa + BitVec.ofNat 32 2).toNat ++ s.mem.read (pa + BitVec.ofNat 32 3).toNat := by
  have four_bytes (P : Nat → Prop) : (∀ k < 4, P k) ↔ P 0 ∧ P 1 ∧ P 2 ∧ P 3 := by
    simp only [Nat.forall_lt_succ_right, Nat.not_lt_zero, false_implies, implies_true, true_and, and_assoc]
  simp only [physReadWord, except_bind_ok, physRead8_ok, and_assoc, exists_and_left, exists_eq_left, four_bytes, pure, Except.pure,
    Except.ok.injEq, BitVec.ofNat_eq_ofNat, BitVec.add_zero, eq_comm (b := w)]

theorem physReadWord_beyond {s : State} {pa : Word} (h : ∃ k < 4, s.memSize ≤ (pa + BitVec.ofNat 32 k).toNat) :
    physReadWord s pa = .error .addrError := by
  cases hw : physReadWord s pa with
  | error e => rw [physReadWord_error s pa e hw]
  | ok w =>
    obtain ⟨k, hk, beyond⟩ := h
    have inside := ((physReadWord_ok s pa w).mp hw).1 k hk
    omega

/-! ## The checks on the entry -/

section Checks

variable {pte va : Word} {priv : Priv} {acc : Access}

theorem checkPte_invalid (valid : pte.toNat.testBit 0 = false) : checkPte pte priv va acc = .error .pageFault :=
  if_pos valid

theorem checkPte_user_on_supervisor (valid : pte.toNat.testBit 0 = true) (denied : pte.toNat.testBit 2 = true ∧ priv = .user) :
    checkPte pte priv va acc = .error .pageFault := by
  simp [checkPte, pteValid, pteSupervisor, BitVec.getLsbD, valid, denied]

theorem checkPte_write_protected (valid : pte.toNat.testBit 0 = true) (allowed : ¬ (pte.toNat.testBit 2 = true ∧ priv = .user))
    (denied : acc = .write ∧ pte.toNat.testBit 1 = false) : checkPte pte priv va acc = .error .writeProtect := by
  simp [checkPte, pteValid, pteSupervisor, pteWritable, BitVec.getLsbD, valid, allowed, denied]

theorem checkPte_passed (valid : pte.toNat.testBit 0 = true) (allowed : ¬ (pte.toNat.testBit 2 = true ∧ priv = .user))
    (writable : ¬ (acc = .write ∧ pte.toNat.testBit 1 = false)) :
    checkPte pte priv va acc = .ok (pteFrame pte ++ pageOffset va) := by
  simp [checkPte, pteValid, pteSupervisor, pteWritable, BitVec.getLsbD, valid, allowed, writable]

end Checks

/-- The frame of the entry and the offset in the page make the physical address (20_memory.md R66). -/
theorem frame_append_offset (pte va : Word) :
    pteFrame pte ++ pageOffset va = BitVec.ofNat 32 (pte.toNat / 4096 * 4096 + va.toNat % 4096) := by
  apply BitVec.eq_of_toNat_eq
  simp only [append_toNat, pteFrame, pageOffset, BitVec.extractLsb'_toNat, Nat.shiftRight_eq_div_pow, BitVec.toNat_ofNat]
  omega

/-! ## Translation -/

theorem translate_entry_beyond {s : State} {va : Word} {acc : Access} (on : s.mmuEn = true)
    (h : ∃ k < 4, s.memSize ≤ (pteAddress s.ptb va + BitVec.ofNat 32 k).toNat) : translate s va acc = .error .addrError := by
  rw [translate_on on, physReadWord_beyond h, Except.bind]

theorem translate_of_entry {s : State} {va pte : Word} (on : s.mmuEn = true)
    (h : physReadWord s (pteAddress s.ptb va) = .ok pte) (acc : Access) : translate s va acc = checkPte pte s.priv va acc := by
  rw [translate_on on, h, Except.bind]

/-- Settles O53: the bytes of the entry are those of the word the walker reads, and the clauses are the branches of `checkPte`. -/
theorem translationChecks : Obligations.TranslationChecks := by
  intro s va acc
  simp only [← pteAddress_add_toNat, ← bigEndian_toNat]
  refine ⟨fun off => translate_off off va acc, translate_entry_beyond, fun on inside => ?_⟩
  rw [translate_of_entry on ((physReadWord_ok s _ _).mpr ⟨inside, rfl⟩), ← frame_append_offset]
  exact ⟨checkPte_invalid, fun valid supervisor user => checkPte_user_on_supervisor valid ⟨supervisor, user⟩,
    fun valid allowed write readonly => checkPte_write_protected valid allowed ⟨write, readonly⟩, checkPte_passed⟩

/-! ## One byte of an access -/

section Beyond

variable {s : State} {va pa : Word} (beyond : s.memSize ≤ pa.toNat)
include beyond

theorem readByte_beyond (h : translate s va .read = .ok pa) : readByte s va = .error .addrError := by
  simpa [readByte, h] using (physRead8_error s pa .addrError).mpr ⟨beyond, rfl⟩

theorem writeByte_beyond (h : translate s va .write = .ok pa) (b : Byte) : writeByte s va b = .error .addrError := by
  simpa [writeByte, h] using (physWrite8_error s pa b .addrError).mpr ⟨beyond, rfl⟩

end Beyond

/-- Settles O54, clause by clause: the access succeeds within MEM_SIZE, fails at or beyond it, and fails where its translation does. -/
theorem byteAccess : Obligations.ByteAccess := by
  intro s va pa b e
  refine ⟨fun h inside => (readByte_ok s va _).mpr ⟨pa, h, inside, rfl⟩, fun h beyond => readByte_beyond beyond h,
    readByte_of_error, fun h inside => ?written, fun h beyond => writeByte_beyond beyond h b, fun h => writeByte_of_error h b⟩
  case written =>
    exact ⟨_, (writeByte_ok s va b _).mpr ⟨pa, h, inside, rfl⟩, write_read_same _ _ _, fun _ => (write_read_other _ · b), rfl⟩

end Sys2Proof.Proofs

/-! SUPPORT and PROOFS. The instruction words (30_encoding.md R100-R121): the fields of an encoded word, decoding and encoding as
inverses, and the rows of the opcode table as the words that decode. -/

namespace Sys2Proof.Proofs

open Sys2Proof Sys2Proof.Machine Sys2Proof.Claims

/-! ## A word and its fields as numbers (30_encoding.md R101) -/

theorem field_toNat (w : Word) (lo len : Nat) : (w.extractLsb' lo len).toNat = w.toNat / 2 ^ lo % 2 ^ len := by
  rw [BitVec.extractLsb'_toNat, Nat.shiftRight_eq_div_pow]

theorem field_eq {w : Word} {lo len : Nat} {x : BitVec len} (h : w.toNat / 2 ^ lo % 2 ^ len = x.toNat) :
    w.extractLsb' lo len = x :=
  BitVec.eq_of_toNat_eq ((field_toNat w lo len).trans h)

section Fields

variable (m : BitVec 6) (d s1 s2 : RegIdx) (f : BitVec 11) (imm : BitVec 16) (vec : BitVec 9)

theorem formatR_toNat : (formatR m d s1 f s2).toNat =
    m.toNat * 2 ^ 26 + d.toNat * 2 ^ 21 + s1.toNat * 2 ^ 16 + f.toNat * 2 ^ 5 + s2.toNat := by
  simp only [formatR, append_toNat]
  omega

theorem formatI_toNat :
    (formatI m d s1 imm).toNat = m.toNat * 2 ^ 26 + d.toNat * 2 ^ 21 + s1.toNat * 2 ^ 16 + imm.toNat := by
  simp only [formatI, append_toNat]
  omega

theorem formatT_toNat : (formatT m vec).toNat = m.toNat * 2 ^ 26 + vec.toNat := by
  simp only [formatT, append_toNat, show (0 : BitVec 17).toNat = 0 from rfl]
  omega

@[simp] theorem fieldMajor_formatR : fieldMajor (formatR m d s1 f s2) = m := field_eq (by rw [formatR_toNat]; omega)
@[simp] theorem fieldD_formatR : fieldD (formatR m d s1 f s2) = d := field_eq (by rw [formatR_toNat]; omega)
@[simp] theorem fieldS1_formatR : fieldS1 (formatR m d s1 f s2) = s1 := field_eq (by rw [formatR_toNat]; omega)
@[simp] theorem fieldFunc_formatR : fieldFunc (formatR m d s1 f s2) = f := field_eq (by rw [formatR_toNat]; omega)
@[simp] theorem fieldS2_formatR : fieldS2 (formatR m d s1 f s2) = s2 := field_eq (by rw [formatR_toNat]; omega)
@[simp] theorem fieldMajor_formatI : fieldMajor (formatI m d s1 imm) = m := field_eq (by rw [formatI_toNat]; omega)
@[simp] theorem fieldD_formatI : fieldD (formatI m d s1 imm) = d := field_eq (by rw [formatI_toNat]; omega)
@[simp] theorem fieldS1_formatI : fieldS1 (formatI m d s1 imm) = s1 := field_eq (by rw [formatI_toNat]; omega)
@[simp] theorem fieldImm_formatI : fieldImm (formatI m d s1 imm) = imm := field_eq (by rw [formatI_toNat]; omega)
@[simp] theorem fieldMajor_formatT : fieldMajor (formatT m vec) = m := field_eq (by rw [formatT_toNat]; omega)
@[simp] theorem fieldTrapZero_formatT : fieldTrapZero (formatT m vec) = 0 :=
  field_eq (by rw [formatT_toNat, show (0 : BitVec 17).toNat = 0 from rfl]; omega)
@[simp] theorem fieldVec_formatT : fieldVec (formatT m vec) = vec := field_eq (by rw [formatT_toNat]; omega)

end Fields

section WordOfFields

variable {w : Word} {m f : Nat}

/-- A word is put together again from its fields, MAJOR and FUNC given by their numbers. -/
theorem formatR_of_fields {d s1 s2 : RegIdx} (major : (fieldMajor w).toNat = m) (hd : fieldD w = d) (h1 : fieldS1 w = s1)
    (func : (fieldFunc w).toNat = f) (h2 : fieldS2 w = s2) : formatR (BitVec.ofNat 6 m) d s1 (BitVec.ofNat 11 f) s2 = w := by
  subst major hd h1 func h2
  simp only [BitVec.ofNat_toNat, BitVec.setWidth_eq]
  apply BitVec.eq_of_toNat_eq
  simp only [formatR_toNat, fieldMajor, fieldD, fieldS1, fieldFunc, fieldS2, field_toNat]
  omega

theorem formatI_of_fields (major : (fieldMajor w).toNat = m) :
    formatI (BitVec.ofNat 6 m) (fieldD w) (fieldS1 w) (fieldImm w) = w := by
  subst major
  simp only [BitVec.ofNat_toNat, BitVec.setWidth_eq]
  apply BitVec.eq_of_toNat_eq
  simp only [formatI_toNat, fieldMajor, fieldD, fieldS1, fieldImm, field_toNat]
  omega

theorem formatT_of_fields (major : (fieldMajor w).toNat = m) (zero : fieldTrapZero w = 0) :
    formatT (BitVec.ofNat 6 m) (fieldVec w) = w := by
  subst major
  have zero : w.toNat / 2 ^ 9 % 2 ^ 17 = 0 := (field_toNat w 9 17).symm.trans (congrArg BitVec.toNat zero)
  simp only [BitVec.ofNat_toNat, BitVec.setWidth_eq]
  apply BitVec.eq_of_toNat_eq
  simp only [formatT_toNat, fieldMajor, fieldVec, field_toNat]
  omega

end WordOfFields

/-! ## The decoder's dispatch -/

section Groups

variable {w : Word}

theorem decode_integer (h : fieldMajor w = 0x30) : decode w = decodeInteger w := by rw [decode, h]; rfl
theorem decode_control (h : fieldMajor w = 0x31) : decode w = decodeControl w := by rw [decode, h]; rfl
theorem decode_float (h : fieldMajor w = 0x32) : decode w = decodeFloat w := by rw [decode, h]; rfl
theorem decode_vector (h : fieldMajor w = 0x33) : decode w = decodeVector w := by rw [decode, h]; rfl
theorem decode_system (h : fieldMajor w = 0x34) : decode w = decodeSystem w := by rw [decode, h]; rfl

end Groups

/-! ## Decoding what has been encoded -/

/-- Settles O1: MAJOR and FUNC lead the decoder back to the constructor, and the operands are read where they were put. -/
theorem decodeOfEncode : Obligations.DecodeOfEncode := by
  intro i hi
  cases i with
  | addi | andi | ori | xori | oru | ldb | ldbu | ldh | ldhu | ldw | ldd | stb | sth | stw | std | beq | bne | blt | bge | bgt
  | ble | vextbi | vinsbi => simp [encode, decode]
  | trap => simp [encode, decode, whenZero]
  | add | sub | mul | div | divu | rem | remu | muls | mulu | divud | cmp | cmpu | and | or | xor | extu | mak | rot | ff1 | ff0
  | sextb | zextb | sexth | zexth => simp [encode, decode_integer, decodeInteger, whenZero]
  | jmp | jsr | tbnd | rte => simp [encode, decode_control, decodeControl, whenZero]
  | ldcr rd crN | stcr rs1 crN =>
    have legal : crLegal crN = true := hi
    simp [encode, decode_control, decodeControl, whenZero, legal]
  | fadd | fsub | fmul | fdiv | fcmp | flt | int => simp [encode, decode_float, decodeFloat, whenZero]
  | vadd | vsub | vmul | vdiv | vmov | vcmpeq | vcmpgt | vcmplt | vmin | vmax | vshuf | vinth | vintl | vextb | vinsb | vpack
  | vunpkl | vunpkh => simp [encode, decode_vector, decodeVector, whenZero]
  | icache | dcache | flush | inval | prefetch | ldptb | tlbinv | xlate =>
    simp [encode, decode_system, decodeSystem, whenZero]

theorem decode_of_encode_eq {w : Word} {i : Instr} (hw : encode i = w) (hi : i.wellFormed = true) : decode w = .ok i :=
  hw ▸ decodeOfEncode i hi

/-- Settles O5: each word is the encoding of its instruction. -/
theorem exampleWordsDecode : Obligations.ExampleWordsDecode :=
  ⟨decode_of_encode_eq rfl rfl, decode_of_encode_eq rfl rfl, decode_of_encode_eq rfl rfl, decode_of_encode_eq rfl rfl,
    decode_of_encode_eq rfl rfl, decode_of_encode_eq rfl rfl, decode_of_encode_eq rfl rfl, decode_of_encode_eq rfl rfl,
    decode_of_encode_eq rfl rfl, decode_of_encode_eq rfl rfl, decode_of_encode_eq rfl rfl, decode_of_encode_eq rfl rfl⟩

/-! ## Encoding what has been decoded -/

theorem whenZero_eq_ok {zero : Bool} {i j : Instr} : whenZero zero i = .ok j ↔ zero = true ∧ i = j := by
  cases zero <;> simp [whenZero]

/-- The answer of the decoder to `w`, if it is an instruction, is a well-formed one whose word is `w`. -/
def ReadsBack (w : Word) (r : Except Reject Instr) : Prop := ∀ i, r = .ok i → i.wellFormed = true ∧ encode i = w

theorem readsBack_error (w : Word) (e : Reject) : ReadsBack w (.error e) := fun _ h => nomatch h

theorem readsBack_ok {w : Word} {i : Instr} (hi : i.wellFormed = true) (hw : encode i = w) : ReadsBack w (.ok i) := by
  rintro _ ⟨⟩
  exact ⟨hi, hw⟩

theorem readsBack_whenZero {w : Word} {zero : Bool} {i : Instr} (h : zero = true → ReadsBack w (.ok i)) :
    ReadsBack w (whenZero zero i) := by
  intro j hj
  obtain ⟨hz, rfl⟩ := whenZero_eq_ok.mp hj
  exact h hz i rfl

theorem zero_of_beq_and {x : RegIdx} {b : Bool} (h : (x == 0 && b) = true) : x = 0 ∧ b = true := by simpa using h

section Groups

variable {w : Word}

theorem decodeInteger_readsBack (major : (fieldMajor w).toNat = 0x30) : ReadsBack w (decodeInteger w) := by
  unfold decodeInteger
  split
  case h_25 => exact readsBack_error w _
  case h_11 func | h_12 func =>
    exact readsBack_whenZero fun hd => readsBack_ok rfl (formatR_of_fields major (eq_of_beq hd) rfl func rfl)
  case h_19 func | h_20 func | h_21 func | h_22 func | h_23 func | h_24 func =>
    exact readsBack_whenZero fun h2 => readsBack_ok rfl (formatR_of_fields major rfl rfl func (eq_of_beq h2))
  all_goals
    rename_i func
    exact readsBack_ok rfl (formatR_of_fields major rfl rfl func rfl)

theorem decodeControl_readsBack (major : (fieldMajor w).toNat = 0x31) : ReadsBack w (decodeControl w) := by
  unfold decodeControl
  split
  case h_1 func | h_2 func =>
    refine readsBack_whenZero fun zero => ?_
    obtain ⟨hd, h2⟩ := zero_of_beq_and zero
    exact readsBack_ok rfl (formatR_of_fields major hd rfl func (eq_of_beq h2))
  case h_3 func =>
    exact readsBack_whenZero fun hd => readsBack_ok rfl (formatR_of_fields major (eq_of_beq hd) rfl func rfl)
  case h_4 func =>
    refine readsBack_whenZero fun zero => ?_
    obtain ⟨zero, h2⟩ := Bool.and_eq_true_iff.mp zero
    obtain ⟨hd, h1⟩ := zero_of_beq_and zero
    exact readsBack_ok rfl (formatR_of_fields major hd (eq_of_beq h1) func (eq_of_beq h2))
  case h_5 func =>
    refine readsBack_whenZero fun zero => ?_
    obtain ⟨h1, legal⟩ := zero_of_beq_and zero
    exact readsBack_ok legal (formatR_of_fields major rfl h1 func rfl)
  case h_6 func =>
    refine readsBack_whenZero fun zero => ?_
    obtain ⟨hd, legal⟩ := zero_of_beq_and zero
    exact readsBack_ok legal (formatR_of_fields major hd rfl func rfl)
  case h_7 => exact readsBack_error w _

theorem decodeFloat_readsBack (major : (fieldMajor w).toNat = 0x32) : ReadsBack w (decodeFloat w) := by
  unfold decodeFloat
  split
  case h_8 => exact readsBack_error w _
  case h_5 func =>
    exact readsBack_whenZero fun hd => readsBack_ok rfl (formatR_of_fields major (eq_of_beq hd) rfl func rfl)
  case h_6 func | h_7 func =>
    exact readsBack_whenZero fun h2 => readsBack_ok rfl (formatR_of_fields major rfl rfl func (eq_of_beq h2))
  all_goals
    rename_i func
    exact readsBack_ok rfl (formatR_of_fields major rfl rfl func rfl)

theorem decodeVector_readsBack (major : (fieldMajor w).toNat = 0x33) : ReadsBack w (decodeVector w) := by
  unfold decodeVector
  split
  case h_19 => exact readsBack_error w _
  case h_5 func | h_17 func | h_18 func =>
    exact readsBack_whenZero fun h2 => readsBack_ok rfl (formatR_of_fields major rfl rfl func (eq_of_beq h2))
  all_goals
    rename_i func
    exact readsBack_ok rfl (formatR_of_fields major rfl rfl func rfl)

theorem decodeSystem_readsBack (major : (fieldMajor w).toNat = 0x34) : ReadsBack w (decodeSystem w) := by
  unfold decodeSystem
  split
  case h_7 func =>
    refine readsBack_whenZero fun zero => ?_
    obtain ⟨zero, h2⟩ := Bool.and_eq_true_iff.mp zero
    obtain ⟨hd, h1⟩ := zero_of_beq_and zero
    exact readsBack_ok rfl (formatR_of_fields major hd (eq_of_beq h1) func (eq_of_beq h2))
  case h_8 func =>
    exact readsBack_whenZero fun h2 => readsBack_ok rfl (formatR_of_fields major rfl rfl func (eq_of_beq h2))
  case h_9 => exact readsBack_error w _
  all_goals
    rename_i func
    refine readsBack_whenZero fun zero => ?_
    obtain ⟨hd, h2⟩ := zero_of_beq_and zero
    exact readsBack_ok rfl (formatR_of_fields major hd rfl func (eq_of_beq h2))

theorem decode_readsBack (w : Word) : ReadsBack w (decode w) := by
  unfold decode
  split
  case h_22 major =>
    exact readsBack_whenZero fun zero => readsBack_ok rfl (formatT_of_fields major (eq_of_beq zero))
  case h_25 major => exact decodeInteger_readsBack major
  case h_26 major => exact decodeControl_readsBack major
  case h_27 major => exact decodeFloat_readsBack major
  case h_28 major => exact decodeVector_readsBack major
  case h_29 major => exact decodeSystem_readsBack major
  case h_30 => exact readsBack_error w _
  all_goals
    rename_i major
    exact readsBack_ok rfl (formatI_of_fields major)

end Groups

/-- Settles O2: in each branch of the decoder the fields that are not operands are known, so the word can be put together again. -/
theorem encodeOfDecode : Obligations.EncodeOfDecode := decode_readsBack

end Sys2Proof.Proofs

/-! ## The rows of the opcode table (30_encoding.md R109, R111) -/

namespace Sys2Proof.Laws.EncodingFitsRow

open Sys2Proof

/-- The statement of this namespace, which is proved constructor by constructor, for every instruction. -/
theorem every (i : Instr) : Statement i := by
  cases i
  all_goals simp only [
      addi, andi, ori, xori, oru, ldb, ldbu, ldh, ldhu, ldw, ldd, stb, sth, stw, std, beq, bne, blt, bge, bgt, ble, trap,
      vextbi, vinsbi, add, sub, mul, div, divu, rem, remu, muls, mulu, divud, cmp, cmpu, and, or, xor, extu, mak, rot, ff1, ff0,
      sextb, zextb, sexth, zexth, jmp, jsr, tbnd, rte, ldcr, stcr, fadd, fsub, fmul, fdiv, fcmp, flt, int, vadd, vsub, vmul,
      vdiv, vmov, vcmpeq, vcmpgt, vcmplt, vmin, vmax, vshuf, vinth, vintl, vextb, vinsb, vpack, vunpkl, vunpkh, icache, dcache,
      flush, inval, prefetch, ldptb, tlbinv, xlate]

end Sys2Proof.Laws.EncodingFitsRow

namespace Sys2Proof.Proofs

open Sys2Proof Sys2Proof.Machine Sys2Proof.Claims

section Rows

variable {w : Word} {r : OpcodeRow}

theorem beq_zero_of_ones {n : Nat} {x : BitVec n} (h : x &&& BitVec.allOnes n = 0) : (x == 0) = true := by simpa using h

theorem crLegal_of_and {c : BitVec 5} (h : c &&& 0x1E = 0) : crLegal c = true := by
  revert c
  decide

/-- The fields of a word that fits a row of format R: those the row's mask covers are those of its match. -/
structure FieldsFit (w : Word) (r : OpcodeRow) : Prop where
  major : fieldMajor w = fieldMajor r.pattern
  d : fieldD w &&& fieldD r.mask = 0
  s1 : fieldS1 w &&& fieldS1 r.mask = 0
  func : fieldFunc w = fieldFunc r.pattern
  s2 : fieldS2 w &&& fieldS2 r.mask = 0

/-- A row of format R covers MAJOR and FUNC, and asks of the register fields that they, or some of their bits, are zero. -/
abbrev IsFormatR (r : OpcodeRow) : Prop :=
  fieldMajor r.mask = BitVec.allOnes 6 ∧ fieldD r.pattern = 0 ∧ fieldS1 r.pattern = 0 ∧ fieldFunc r.mask = BitVec.allOnes 11 ∧
    fieldS2 r.pattern = 0

theorem major_of_fits (hr : fieldMajor r.mask = BitVec.allOnes 6) (fits : w &&& r.mask = r.pattern) :
    fieldMajor w = fieldMajor r.pattern := by
  rw [← BitVec.and_allOnes (x := fieldMajor w), ← hr, ← fits]
  exact BitVec.extractLsb'_and.symm

theorem fieldsFit_of_fits (hr : IsFormatR r) (fits : w &&& r.mask = r.pattern) : FieldsFit w r := by
  obtain ⟨major, d, s1, func, s2⟩ := hr
  have at_field (lo len : Nat) : w.extractLsb' lo len &&& r.mask.extractLsb' lo len = r.pattern.extractLsb' lo len := by
    rw [← fits, BitVec.extractLsb'_and]
  refine ⟨major_of_fits major fits, (at_field 21 5).trans d, (at_field 16 5).trans s1, ?_, (at_field 0 5).trans s2⟩
  rw [← BitVec.and_allOnes (x := fieldFunc w), ← func]
  exact at_field 5 11

/-- What fitting a row of the group of MAJOR `m` says of a word's fields. -/
theorem fieldsFit_of_group {m : BitVec 6} {rows : List OpcodeRow}
    (group : ∀ r ∈ rows, IsFormatR r ∧ fieldMajor r.pattern = m) (hr : r ∈ rows) (fits : w &&& r.mask = r.pattern) :
    fieldMajor w = m ∧ FieldsFit w r := by
  obtain ⟨isR, major⟩ := group r hr
  have fit := fieldsFit_of_fits isR fits
  exact ⟨fit.major.trans major, fit⟩

theorem and_eq_true_of {a b : Bool} (ha : a = true) (hb : b = true) : (a && b) = true := by rw [ha, hb, Bool.and_self]

theorem whenZero_accepts {zero : Bool} (h : zero = true) (i : Instr) : ∃ j, whenZero zero i = .ok j := ⟨i, if_pos h⟩

theorem decodeInteger_accepts (hr : r ∈ rowsInteger) (fit : FieldsFit w r) : ∃ i, decodeInteger w = .ok i := by
  obtain ⟨-, d, -, func, s2⟩ := fit
  rw [decodeInteger, func]
  fin_cases hr
  -- add to divud; cmp and cmpu; and to rot; ff1 to zexth
  iterate 10 exact ⟨_, rfl⟩
  iterate 2 exact whenZero_accepts (beq_zero_of_ones d) _
  iterate 6 exact ⟨_, rfl⟩
  iterate 6 exact whenZero_accepts (beq_zero_of_ones s2) _

theorem decodeControl_accepts (hr : r ∈ rowsControl) (fit : FieldsFit w r) : ∃ i, decodeControl w = .ok i := by
  obtain ⟨-, d, s1, func, s2⟩ := fit
  rw [decodeControl, func]
  fin_cases hr
  -- jmp and jsr; tbnd; rte; ldcr; stcr
  iterate 2 exact whenZero_accepts (and_eq_true_of (beq_zero_of_ones d) (beq_zero_of_ones s2)) _
  · exact whenZero_accepts (beq_zero_of_ones d) _
  · have d_s1 := and_eq_true_of (beq_zero_of_ones d) (beq_zero_of_ones s1)
    exact whenZero_accepts (and_eq_true_of d_s1 (beq_zero_of_ones s2)) _
  · exact whenZero_accepts (and_eq_true_of (beq_zero_of_ones s1) (crLegal_of_and s2)) _
  · exact whenZero_accepts (and_eq_true_of (beq_zero_of_ones d) (crLegal_of_and s2)) _

theorem decodeFloat_accepts (hr : r ∈ rowsFloat) (fit : FieldsFit w r) : ∃ i, decodeFloat w = .ok i := by
  obtain ⟨-, d, -, func, s2⟩ := fit
  rw [decodeFloat, func]
  fin_cases hr
  -- fadd to fdiv; fcmp; flt and int
  iterate 4 exact ⟨_, rfl⟩
  · exact whenZero_accepts (beq_zero_of_ones d) _
  iterate 2 exact whenZero_accepts (beq_zero_of_ones s2) _

theorem decodeVector_accepts (hr : r ∈ rowsVector) (fit : FieldsFit w r) : ∃ i, decodeVector w = .ok i := by
  obtain ⟨-, -, -, func, s2⟩ := fit
  rw [decodeVector, func]
  fin_cases hr
  -- vadd to vdiv; vmov; vcmpeq to vpack; vunpkl and vunpkh
  iterate 4 exact ⟨_, rfl⟩
  · exact whenZero_accepts (beq_zero_of_ones s2) _
  iterate 11 exact ⟨_, rfl⟩
  iterate 2 exact whenZero_accepts (beq_zero_of_ones s2) _

theorem decodeSystem_accepts (hr : r ∈ rowsSystem) (fit : FieldsFit w r) : ∃ i, decodeSystem w = .ok i := by
  obtain ⟨-, d, s1, func, s2⟩ := fit
  rw [decodeSystem, func]
  fin_cases hr
  -- icache to ldptb; tlbinv; xlate
  iterate 6 exact whenZero_accepts (and_eq_true_of (beq_zero_of_ones d) (beq_zero_of_ones s2)) _
  · have d_s1 := and_eq_true_of (beq_zero_of_ones d) (beq_zero_of_ones s1)
    exact whenZero_accepts (and_eq_true_of d_s1 (beq_zero_of_ones s2)) _
  · exact whenZero_accepts (beq_zero_of_ones s2) _

theorem decode_accepts_immediate (hr : r ∈ rowsImmediate) (fits : w &&& r.mask = r.pattern) : ∃ i, decode w = .ok i := by
  have covered : ∀ r ∈ rowsImmediate, fieldMajor r.mask = BitVec.allOnes 6 := by decide
  have zero : fieldTrapZero w &&& fieldTrapZero r.mask = fieldTrapZero r.pattern := by
    rw [← fits]
    exact BitVec.extractLsb'_and.symm
  rw [decode, major_of_fits (covered r hr) fits]
  clear fits
  fin_cases hr
  -- addi to ble; trap; vextbi and vinsbi
  iterate 21 exact ⟨_, rfl⟩
  · exact whenZero_accepts (beq_zero_of_ones zero) _
  iterate 2 exact ⟨_, rfl⟩

/-- The decoder accepts every word of every row, group by group. -/
theorem decode_accepts (hr : r ∈ opcodeRows) (fits : w &&& r.mask = r.pattern) : ∃ i, decode w = .ok i := by
  simp only [opcodeRows, List.mem_append, or_assoc] at hr
  obtain hr | hr | hr | hr | hr | hr := hr
  · exact decode_accepts_immediate hr fits
  · obtain ⟨major, fit⟩ := fieldsFit_of_group (m := 0x30) (by decide) hr fits
    rw [decode_integer major]
    exact decodeInteger_accepts hr fit
  · obtain ⟨major, fit⟩ := fieldsFit_of_group (m := 0x31) (by decide) hr fits
    rw [decode_control major]
    exact decodeControl_accepts hr fit
  · obtain ⟨major, fit⟩ := fieldsFit_of_group (m := 0x32) (by decide) hr fits
    rw [decode_float major]
    exact decodeFloat_accepts hr fit
  · obtain ⟨major, fit⟩ := fieldsFit_of_group (m := 0x33) (by decide) hr fits
    rw [decode_vector major]
    exact decodeVector_accepts hr fit
  · obtain ⟨major, fit⟩ := fieldsFit_of_group (m := 0x34) (by decide) hr fits
    rw [decode_system major]
    exact decodeSystem_accepts hr fit

end Rows

/-- Settles O3: the decoder accepts every word of a row, and a word that decodes is an encoding, which fits its
instruction's row. -/
theorem illegalExactlyWhenNoRowFits : Obligations.IllegalExactlyWhenNoRowFits := by
  intro w
  constructor
  · rintro ⟨e, he⟩ r hr fits
    obtain ⟨i, hi⟩ := decode_accepts hr fits
    cases he.symm.trans hi
  · intro none_fits
    cases hd : decode w with
    | error e => exact ⟨e, rfl⟩
    | ok i =>
      obtain ⟨hi, rfl⟩ := encodeOfDecode w i hd
      obtain ⟨r, hr, -, fits⟩ := Laws.EncodingFitsRow.every i hi
      exact absurd (eq_of_beq fits) (none_fits r hr)

/-! ## MAJOR and FUNC name the row -/

/-- The bits that tell the rows apart: MAJOR, and in the five groups FUNC (30_encoding.md R103-R108). -/
def nameMask (major : BitVec 6) : Word := if major < 0x30 then 0xFC00_0000 else 0xFC00_FFE0

/-- Every row covers its naming bits, and its match has no others. -/
theorem row_covers_name : ∀ r ∈ opcodeRows, fieldMajor r.mask = BitVec.allOnes 6 ∧
    r.mask &&& nameMask (fieldMajor r.pattern) = nameMask (fieldMajor r.pattern) ∧
    r.pattern &&& nameMask (fieldMajor r.pattern) = r.pattern := by
  simp only [opcodeRows, List.forall_mem_append, and_assoc]
  refine ⟨?immediate, ?integer, ?control, ?float, ?vector, ?system⟩
  all_goals decide

theorem pattern_of_fits {w : Word} {r : OpcodeRow} (hr : r ∈ opcodeRows) (fits : w &&& r.mask = r.pattern) :
    r.pattern = w &&& nameMask (fieldMajor w) := by
  obtain ⟨major, covered, only⟩ := row_covers_name r hr
  rw [major_of_fits major fits, ← covered, ← BitVec.and_assoc, fits, only]

/-- The table is in the order of its matches, so no two are equal. -/
theorem opcodeRows_patterns_nodup : (opcodeRows.map OpcodeRow.pattern).Nodup := by
  have rising : opcodeRows.IsChain (fun r q => r.pattern < q.pattern) := by
    simp only [opcodeRows, List.isChain_append]
    decide
  have ordered := List.isChain_iff_pairwise.mp rising
  exact List.pairwise_map.mpr (ordered.imp BitVec.ne_of_lt)

/-- Settles O4: a word's MAJOR and FUNC are the match of any row it fits, and the matches are distinct. -/
theorem noWordFitsTwoRows : Obligations.NoWordFitsTwoRows := by
  intro w r q hr hq fits_r fits_q
  have same : r.pattern = q.pattern := (pattern_of_fits hr fits_r).trans (pattern_of_fits hq fits_q).symm
  exact List.inj_on_of_nodup_map opcodeRows_patterns_nodup hr hq same

end Sys2Proof.Proofs

/-! SUPPORT and PROOFS. The dispatcher (30_encoding.md R115-R123): which instruction a step runs, when there is no step, and the
privilege check. -/

namespace Sys2Proof.Proofs

open Sys2Proof Sys2Proof.Machine Sys2Proof.Claims

/-! ## Fetch and dispatch (30_encoding.md R115, R116) -/

section Dispatch

variable {s : State} {w : Word}

theorem fetch_of_memRead (aligned : s.pc.extractLsb' 0 2 = 0) (read : memRead s s.pc 4 = .ok w) : fetch s = .ok w := by
  simp [fetch, aligned, read]

theorem step_of_decode {i : Instr} (running : s.run = .running) (fetched : fetch s = .ok w) (decoded : decode w = .ok i) :
    step s = exec i s := by
  simp [step, cycle, running, fetched, decoded]

theorem step_of_illegal {e : Reject} (running : s.run = .running) (fetched : fetch s = .ok w) (rejected : decode w = .error e) :
    step s = .next (s.halt .illegal) :=
  (step_next s _).mpr ⟨running, .inr (.inl ⟨w, e, fetched, rejected, rfl⟩)⟩

theorem step_of_halted {r : HaltReason} (halted : s.run = .halted r) : step s = .fault (.halted r) := by
  simp [step, cycle, halted]

end Dispatch

/-- Settles O6: the dispatcher answers what `exec` answers. -/
theorem stepRunsDecodedInstruction : Obligations.StepRunsDecodedInstruction :=
  fun _ _ _ running aligned read decoded => step_of_decode running (fetch_of_memRead aligned read) decoded

/-! ## The four bytes at pc -/

theorem word_aligned_iff (a : Word) : a.extractLsb' 0 2 = 0 ↔ a.toNat % 4 = 0 := by
  rw [← BitVec.toNat_inj, field_toNat, Nat.pow_zero, Nat.div_one]
  rfl

/-- With the MMU off a byte of the fetch is the byte of memory at its address, which does not wrap below MEM_SIZE. -/
theorem bytesRead_untranslated {s : State} {a : Word} (off : s.mmuEn = false) (aligned : a.toNat % 4 = 0)
    (inside : a.toNat + 3 < s.memSize) : BytesRead s a 4 (fun k => s.mem.read (a.toNat + k)) := by
  intro k hk
  have address : (a + BitVec.ofNat 32 k).toNat = a.toNat + k := by
    rw [BitVec.toNat_add, BitVec.toNat_ofNat]
    omega
  exact (readByte_ok s _ _).mpr ⟨_, translate_off off _ _, by omega, by rw [address]⟩

theorem decode_of_decodeBytes {b0 b1 b2 b3 : Byte} {rest : List Byte} {i : Instr}
    (h : decodeBytes (b0 :: b1 :: b2 :: b3 :: rest) = .ok (i, rest)) : decode (b0 ++ b1 ++ b2 ++ b3) = .ok i := by
  simp only [decodeBytes, wordOfBytes] at h
  cases hd : decode (b0 ++ b1 ++ b2 ++ b3) with
  | error e => simp [hd, Except.map] at h
  | ok j => simpa [hd, Except.map] using h

theorem step_of_bytesRead {s : State} {i : Instr} {b : Nat → Byte} (running : s.run = .running) (aligned : s.pc.toNat % 4 = 0)
    (bytes : BytesRead s s.pc 4 b) (decoded : decode (b 0 ++ b 1 ++ b 2 ++ b 3) = .ok i) : step s = exec i s :=
  step_of_decode running (fetch_of_memRead ((word_aligned_iff s.pc).mpr aligned) (memRead_word bytes)) decoded

/-- Settles O7: the word of the fetch is the big-endian word of its four bytes, and with the MMU off these are those of memory. -/
theorem stepRunsBytesAtPc : Obligations.StepRunsBytesAtPc :=
  ⟨fun _ _ _ => step_of_bytesRead, fun _ _ _ running off aligned inside decoded =>
    step_of_bytesRead running aligned (bytesRead_untranslated off aligned inside) (decode_of_decodeBytes decoded)⟩

/-! ## The halted core (30_encoding.md R123) -/

/-- Settles O9: a step of a halted core is its fault, and the other host actions write another part of the state. -/
theorem haltedCoreHasNoStep : Obligations.HaltedCoreHasNoStep := by
  intro s r halted
  refine ⟨step_of_halted halted, rfl, ?reset, ?other⟩
  case reset =>
    rintro n _ ⟨⟩
    rfl
  case other =>
    intro a t h not_reset not_run
    cases a with
    | reset n => exact absurd rfl (not_reset n)
    | setRun q => exact absurd rfl (not_run q)
    | step => cases (step_of_halted halted).symm.trans h
    | load pa b =>
      simp only [HostAction.apply] at h
      split at h
      · cases h
        exact halted
      · cases h
    | setReg | setPc | setNip | setFip | setSxip | setSnip | setSfip | setCr0 | setTvec | setPtb | setMmuEn | setPriv =>
      cases h
      exact halted

/-! ## Control registers that do not exist (30_encoding.md R121) -/

theorem crLegal_of_two_le {crN : BitVec 5} (h : 2 ≤ crN.toNat) : crLegal crN = false :=
  crLegal_eq_false (by rintro rfl; contradiction) (by rintro rfl; contradiction)

theorem decode_ldcr_illegal {rd crN : BitVec 5} (h : crLegal crN = false) :
    decode (formatR 0x31 rd 0 4 crN) = .error .nonzeroUnusedField := by
  simp [decode_control, decodeControl, whenZero, h]

theorem decode_stcr_illegal {rs1 crN : BitVec 5} (h : crLegal crN = false) :
    decode (formatR 0x31 0 rs1 5 crN) = .error .nonzeroUnusedField := by
  simp [decode_control, decodeControl, whenZero, h]

/-- Settles O11: the decoder rejects the word before any privilege check. -/
theorem illegalControlRegisterHalts : Obligations.IllegalControlRegisterHalts := by
  intro s rd rs1 crN w running aligned read two_le word
  have illegal := crLegal_of_two_le two_le
  have fetched := fetch_of_memRead aligned read
  obtain rfl | rfl := word
  · exact step_of_illegal running fetched (decode_ldcr_illegal illegal)
  · exact step_of_illegal running fetched (decode_stcr_illegal illegal)

/-! ## The privilege check (30_encoding.md R122) -/

/-- The eight supervisor-only instructions, legal control-register numbers given, are `supervisorOnly` of their effect. -/
theorem exec_gated_user {i : Instr} {s : State} (hi : i.wellFormed = true) (gated : Gated i) (user : s.priv = .user) :
    exec i s = .next (s.takeException .PRV) := by
  have denied (effect : State) : supervisorOnly s effect = .next (s.takeException .PRV) :=
    (supervisorOnly_next s effect _).mpr (.inl ⟨user, rfl⟩)
  cases i with
  | rte | tlbinv | icache | dcache | flush | inval | ldptb => exact denied _
  | stcr rs1 crN =>
    have number : crN = 0 ∨ crN = 1 := by simpa [Instr.wellFormed, crLegal] using hi
    obtain rfl | rfl := number
    · exact denied _
    · exact denied _
  | _ => simp [Gated] at gated

/-! ### PRV under the updates of the state -/

theorem getLsbD_or_mask (c : Word) {f : Flag} {b : Nat} (h : f.bit ≠ b) : (c ||| f.mask).getLsbD b = c.getLsbD b := by
  have clear : f.mask.getLsbD b = false := by rwa [Bool.eq_false_iff, Ne, flag_mask_getLsbD]
  rw [BitVec.getLsbD_or, clear, Bool.or_false]

theorem getLsbD_and_not (c : Word) {m : Word} {b : Nat} (h : m.getLsbD b = false) : (c &&& ~~~m).getLsbD b = c.getLsbD b := by
  rw [BitVec.getLsbD_and, BitVec.getLsbD_not, h]
  simpa using BitVec.lt_of_getLsbD

theorem getLsbD_assignFlag (c : Word) {f : Flag} {b : Nat} (v : Bool) (h : f.bit ≠ b) :
    (assignFlag c f v).getLsbD b = c.getLsbD b := by
  cases v with
  | true => exact getLsbD_or_mask c h
  | false => exact getLsbD_and_not c (by rwa [Bool.eq_false_iff, Ne, flag_mask_getLsbD])

/-- PRV is as it was. -/
def SamePrv (s t : State) : Prop := t.cr0.getLsbD 20 = s.cr0.getLsbD 20

section SamePrv

variable {s u t : State}

theorem memFault_flag_ne_prv (e : MemFault) : e.flag.bit ≠ 20 := by cases e <;> decide

theorem floatRelation_ne_prv (a b : Word) : (floatRelation a b).bit ≠ 20 := by
  unfold floatRelation
  split_ifs
  all_goals decide

theorem SamePrv.refl (s : State) : SamePrv s s := rfl

variable (h : SamePrv s u)
include h

theorem SamePrv.setFlag (f : Flag) (hf : f.bit ≠ 20 := by decide) : SamePrv s (u.setFlag f) :=
  (getLsbD_or_mask u.cr0 hf).trans h

theorem SamePrv.setFlagIf (c : Bool) (f : Flag) (hf : f.bit ≠ 20 := by decide) : SamePrv s (u.setFlagIf c f) := by
  cases c with
  | false => exact h
  | true => exact h.setFlag f hf

theorem SamePrv.setRangeFlags (a b r : Word) : SamePrv s (u.setRangeFlags a b r) :=
  (h.setFlagIf (ofCond a b r) .OF).setFlagIf (ufCond a b r) .UF

theorem SamePrv.setIntCompare (eq lt gt : Bool) : SamePrv s (u.setIntCompare eq lt gt) := by
  rw [SamePrv, setIntCompare_cr0, getLsbD_assignFlag _ _ (by decide), getLsbD_assignFlag _ _ (by decide),
    getLsbD_assignFlag _ _ (by decide)]
  exact h

theorem SamePrv.setFloatCompare {f : Flag} (hf : f.bit ≠ 20) : SamePrv s (u.setFloatCompare f) := by
  rw [SamePrv, setFloatCompare_cr0, getLsbD_or_mask _ hf, getLsbD_and_not _ (floatCompareField_getLsbD_high 20 (by decide))]
  exact h

theorem SamePrv.finish (ht : Machine.finish u = .next t) : SamePrv s t := (finish_next u t).mp ht ▸ h

theorem SamePrv.writeBack {rd : RegIdx} {v : Word} (ht : Machine.writeBack rd v u = .next t) : SamePrv s t :=
  (writeBack_next rd v u t).mp ht ▸ h

theorem SamePrv.loadRegister {n : Nat} {ext : Word → Word} {rd : RegIdx} {ea : Word}
    (ht : Machine.loadRegister n ext rd ea u = .next t) : SamePrv s t := by
  obtain ⟨e, -, rfl⟩ | ⟨v, -, rfl⟩ := (loadRegister_next n ext rd ea u t).mp ht
  · exact h.setFlag e.flag (memFault_flag_ne_prv e)
  · exact h

theorem SamePrv.memWrite (ea : Word) (bs : List Byte) : SamePrv s (Machine.memWrite u ea bs).1 := by
  obtain ⟨m, hm, -, -⟩ := memWrite_memory bs u ea
  rw [hm]
  exact h

theorem SamePrv.storeBytes {ea : Word} {bs : List Byte} (ht : Machine.storeBytes ea bs u = .next t) : SamePrv s t := by
  obtain ⟨-, rfl⟩ | ⟨e, -, rfl⟩ := (storeBytes_next ea bs u t).mp ht
  · exact h.memWrite ea bs
  · exact (h.memWrite ea bs).setFlag e.flag (memFault_flag_ne_prv e)

end SamePrv

/-! ### PRV under the instructions that are not supervisor-only -/

section Instructions

variable {s t : State}

theorem divideInto_samePrv {f : Word → Word → Word} {rd rs1 rs2 : RegIdx} (h : divideInto f rd rs1 rs2 s = .next t) :
    SamePrv s t :=
  ((SamePrv.refl s).setFlagIf (s.reg rs2 == 0) .DZ).writeBack h

theorem floatLanes_samePrv {f : Word → Word → Word} {rd rs1 rs2 : RegIdx} (h : floatLanes f rd rs1 rs2 s = .next t) :
    SamePrv s t := by
  rw [(floatLanes_next f rd rs1 rs2 s t).mp h]
  exact (SamePrv.refl s).setFlagIf _ .NV

theorem branchWhen_samePrv {taken : Bool} {off : BitVec 16} (h : branchWhen taken off s = .next t) : SamePrv s t := by
  obtain ⟨-, rfl⟩ | ⟨-, rfl⟩ := (branchWhen_next taken off s t).mp h
  · exact .refl s
  · exact .refl s

theorem execDivud_samePrv {rd rs1 rs2 : RegIdx} (h : execDivud rd rs1 rs2 s = .next t) : SamePrv s t := by
  simp only [execDivud] at h
  split at h
  · rw [(finish_next _ t).mp h]
    exact (SamePrv.refl s).setFlag .DZ
  · rw [(finish_next _ t).mp h]
    exact .refl s

theorem execTbnd_samePrv {rs1 rs2 : RegIdx} (h : execTbnd rs1 rs2 s = .next t) : SamePrv s t := by
  unfold execTbnd at h
  split at h
  · cases h
    exact (SamePrv.refl s).setFlag .BND
  · exact (SamePrv.refl s).finish h

theorem execLdcr_samePrv {rd : RegIdx} {crN : BitVec 5} (hi : crLegal crN = true) (h : execLdcr rd crN s = .next t) :
    SamePrv s t := by
  unfold execLdcr at h
  split at h
  · exact (SamePrv.refl s).writeBack h
  case isFalse h0 =>
    split at h
    · exact (SamePrv.refl s).writeBack h
    case isFalse h1 =>
      rw [crLegal_eq_false h0 h1] at hi
      cases hi

theorem execFdiv_samePrv {rd rs1 rs2 : RegIdx} (h : execFdiv rd rs1 rs2 s = .next t) : SamePrv s t := by
  simp only [execFdiv] at h
  split at h
  · split at h
    · exact (((SamePrv.refl s).setFlag .NV).setFlag .DZ).writeBack h
    · exact ((SamePrv.refl s).setFlag .DZ).writeBack h
  · exact ((SamePrv.refl s).setRangeFlags _ _ _).writeBack h

theorem execInt_samePrv {rd rs1 : RegIdx} (h : execInt rd rs1 s = .next t) : SamePrv s t := by
  have overflow := (SamePrv.refl s).setFlag .OF
  simp only [execInt] at h
  split at h
  · exact ((SamePrv.refl s).setFlag .NV).writeBack h
  split at h
  · exact overflow.writeBack h
  split at h
  · exact overflow.writeBack h
  · exact (SamePrv.refl s).writeBack h

theorem execXlate_samePrv {rd rs1 : RegIdx} (h : execXlate rd rs1 s = .next t) : SamePrv s t := by
  unfold execXlate at h
  split at h
  · exact (SamePrv.refl s).writeBack h
  case h_2 e _ =>
    cases h
    exact (SamePrv.refl s).setFlag e.flag (memFault_flag_ne_prv e)

theorem execLdd_samePrv {rd rs1 : RegIdx} {imm : BitVec 16} (h : execLdd rd rs1 imm s = .next t) : SamePrv s t := by
  simp only [execLdd] at h
  split at h
  case h_1 e _ =>
    cases h
    exact (SamePrv.refl s).setFlag e.flag (memFault_flag_ne_prv e)
  case h_2 hi _ => exact SamePrv.loadRegister (u := s.setReg rd hi) (.refl s) h

theorem execStd_samePrv {rs rs1 : RegIdx} {imm : BitVec 16} (h : execStd rs rs1 imm s = .next t) : SamePrv s t := by
  have first := (SamePrv.refl s).memWrite (s.effectiveAddress rs1 imm) (bytesOf 4 (s.reg rs))
  simp only [execStd] at h
  split at h
  case h_1 u e hu =>
    rw [hu] at first
    cases h
    exact first.setFlag e.flag (memFault_flag_ne_prv e)
  case h_2 u hu =>
    rw [hu] at first
    exact first.storeBytes h

end Instructions

theorem exec_samePrv {i : Instr} {s t : State} (hi : i.wellFormed = true) (not_gated : ¬ Gated i) (h : exec i s = .next t) :
    SamePrv s t := by
  have start := SamePrv.refl s
  cases i with
  | addi | andi | ori | xori | oru | add | sub | mul | and | or | xor | extu | mak | rot | ff1 | ff0 | sextb | zextb | sexth | zexth
  | flt | vcmpeq | vcmpgt | vcmplt | vmin | vmax | vshuf | vinth | vintl | vextb | vextbi | vinsb | vinsbi | vpack | vunpkl
  | vunpkh => exact start.writeBack h
  | div | divu | rem | remu => exact divideInto_samePrv h
  | muls | mulu => exact (writeProduct_next _ _ s t).mp h ▸ start
  | divud => exact execDivud_samePrv h
  | cmp | cmpu => exact (start.setIntCompare _ _ _).finish h
  | ldb | ldbu | ldh | ldhu | ldw => exact start.loadRegister h
  | ldd => exact execLdd_samePrv h
  | stb | sth | stw => exact start.storeBytes h
  | std => exact execStd_samePrv h
  | beq | bne | blt | bge | bgt | ble => exact branchWhen_samePrv h
  | trap vec => cases h; exact start.setFlag .TRP
  | jmp | jsr => cases h; exact start
  | tbnd => exact execTbnd_samePrv h
  | ldcr => exact execLdcr_samePrv hi h
  | fadd | fmul => exact (start.setRangeFlags _ _ _).writeBack h
  | fsub => exact (start.setFlagIf _ .NV).writeBack h
  | fdiv => exact execFdiv_samePrv h
  | fcmp => exact (start.setFloatCompare (floatRelation_ne_prv _ _)).finish h
  | int => exact execInt_samePrv h
  | vadd | vsub | vmul => exact floatLanes_samePrv h
  | vdiv => rw [(finish_next _ t).mp h]; exact start.setFlagIf _ .DZ
  | vmov => rw [(finish_next _ t).mp h]; exact start
  | prefetch => exact start.finish h
  | xlate => exact execXlate_samePrv h
  | rte | stcr | icache | dcache | flush | inval | ldptb | tlbinv => exact absurd (by simp [Gated]) not_gated

/-- Settles O21: in User mode the eight take their exception, and no other instruction reaches PRV. -/
theorem privilegeCheck : Obligations.PrivilegeCheck :=
  ⟨fun _ _ hi gated user => exec_gated_user hi gated user, fun _ _ _ hi gated h => exec_samePrv hi gated h⟩

end Sys2Proof.Proofs

/-! SUPPORT and PROOFS. The integer, logical, compare and bit-field instructions (40_integer.md): what the shared ends of instructions
leave unchanged, the value of each operation, and the statements about the instructions, each its value within its frame. -/

namespace Sys2Proof.Proofs

open Sys2Proof Sys2Proof.Machine Sys2Proof.Claims

/-! ## Frames -/

theorem frame_refl (s : State) (rds : List RegIdx) : Frame s s rds s.cr0 s.pc :=
  ⟨fun _ _ => rfl, rfl, rfl, fun _ => rfl, (OrdinaryEffect.refl s).system⟩

section Frames

variable {s u : State} {rds : List RegIdx} {c p : Word} (h : Frame s u rds c p)
include h

theorem frame_setReg {r : RegIdx} (written : r ∈ rds) (v : Word) : Frame s (u.setReg r v) rds c p :=
  { h with
    regs i hi := (setReg_reg_other u (ne_of_mem_of_not_mem written hi).symm v).trans (h.regs i hi)
    system := sameSystem_trans h.system ((OrdinaryEffect.refl u).setReg r v).system }

theorem frame_setPair {r : RegIdx} (first : r ∈ rds) (second : r + 1 ∈ rds) (hi lo : Word) :
    Frame s (u.setPair r hi lo) rds c p :=
  frame_setReg (frame_setReg h first hi) second lo

theorem frame_setFlag (f : Flag) : Frame s (u.setFlag f) rds (c ||| f.mask) p :=
  { h with
    cr0 := by rw [setFlag_cr0, h.cr0]
    system := sameSystem_trans h.system ((OrdinaryEffect.refl u).setFlag f).system }

theorem frame_setIntCompare (eq lt gt : Bool) : Frame s (u.setIntCompare eq lt gt) rds (u.setIntCompare eq lt gt).cr0 p :=
  { h with
    cr0 := rfl
    system := sameSystem_trans h.system ((OrdinaryEffect.refl u).setIntCompare eq lt gt).system }

theorem frame_advance : Frame s u.advance rds c (p + 4) :=
  { h with
    pc := by rw [advance_pc, h.pc]
    system := sameSystem_trans h.system (OrdinaryEffect.refl u).advance.system }

end Frames

/-- The divides set DZ by the same rule as `withDz`. -/
theorem frame_setFlagIf_dz (s : State) (rds : List RegIdx) (b : Word) :
    Frame s (s.setFlagIf (b == 0) .DZ) rds (withDz s.cr0 b) s.pc := by
  by_cases hb : b = 0
  · simp only [hb, withDz, beq_self_eq_true, setFlagIf_true, if_true]
    exact frame_setFlag (frame_refl s rds) .DZ
  · simp only [hb, withDz, beq_false_of_ne hb, setFlagIf_false, if_false]
    exact frame_refl s rds

/-! ## A word that runs

For one instruction, its word, its well-formedness and the shared end that its meaning calls hold by unfolding, and the `by rfl` of a
hypothesis supplies them; what is left to prove is the value. -/

section Runs

variable {w : Word} {i : Instr} {s : State}

theorem runs_of_exec {t : State} {post : State → Prop} (next : exec i s = .next t) (after : post t)
    (word : encode i = w := by rfl) (hi : i.wellFormed = true := by rfl) : Runs w i s post :=
  ⟨decode_of_encode_eq word hi, t, next, after⟩

variable {rd : RegIdx} {v : Word} {P : Word → Prop}

/-- An instruction whose last act is to write `v` to rd, after what led to the state `u`. -/
theorem runs_writeBack {u : State} {c : Word} (frame : Frame s u [rd] c s.pc) (value : P v)
    (exec_eq : exec i s = writeBack rd v u := by rfl) (word : encode i = w := by rfl) (hi : i.wellFormed = true := by rfl) :
    Runs w i s (WritesRdSuch s rd P c) :=
  runs_of_exec (exec_eq.trans ((writeBack_next rd v u _).mpr rfl))
    ⟨by rwa [advance_reg, setReg_reg_same], frame_advance (frame_setReg frame (List.mem_singleton_self rd) v)⟩ word hi

theorem runs_writesRdSuch (value : P v) (exec_eq : exec i s = writeBack rd v s := by rfl) (word : encode i = w := by rfl)
    (hi : i.wellFormed = true := by rfl) : Runs w i s (WritesRdSuch s rd P s.cr0) :=
  runs_writeBack (frame_refl s [rd]) value exec_eq word hi

theorem runs_writesRd {x : Word} (value : v = x) (exec_eq : exec i s = writeBack rd v s := by rfl)
    (word : encode i = w := by rfl) (hi : i.wellFormed = true := by rfl) : Runs w i s (WritesRd s rd x s.cr0) :=
  runs_writesRdSuch (P := (· = x)) value exec_eq word hi

theorem runs_divideInto {f : Word → Word → Word} {rs1 rs2 : RegIdx} (value : P (f (s.reg rs1) (s.reg rs2)))
    (exec_eq : exec i s = divideInto f rd rs1 rs2 s := by rfl) (word : encode i = w := by rfl)
    (hi : i.wellFormed = true := by rfl) : Runs w i s (WritesRdSuch s rd P (withDz s.cr0 (s.reg rs2))) :=
  runs_writeBack (frame_setFlagIf_dz s [rd] (s.reg rs2)) value exec_eq word hi

end Runs

/-! ## Addition, subtraction and multiplication -/

theorem add_eq_ofNat (a b : Word) : a + b = BitVec.ofNat 32 (a.toNat + b.toNat) := by simp [BitVec.ofNat_add]

theorem mul_eq_ofNat (a b : Word) : a * b = BitVec.ofNat 32 (a.toNat * b.toNat) := by simp [BitVec.ofNat_mul]

theorem sub_eq_ofInt (a b : Word) : a - b = BitVec.ofInt 32 (a.toNat - b.toNat) := by
  rw [Int.sub_eq_add_neg, BitVec.ofInt_add, BitVec.ofInt_neg]
  simp [BitVec.sub_eq_add_neg]

theorem add_simm16_eq_ofInt (a : Word) (imm : BitVec 16) : a + simm16 imm = BitVec.ofInt 32 (a.toInt + imm.toInt) := by
  rw [BitVec.ofInt_add, BitVec.ofInt_toInt, simm16, BitVec.signExtend]

/-- Settles O23: each value is the model's word operation, read modulo 2^32. -/
theorem addSubtractMultiply : Obligations.AddSubtractMultiply := by
  intro rd rs1 rs2 imm s
  exact ⟨runs_writesRd (add_eq_ofNat _ _), runs_writesRd (sub_eq_ofInt _ _),
    runs_writesRd (mul_eq_ofNat _ _), runs_writesRd (add_simm16_eq_ofInt _ _)⟩

/-! ## Division -/

theorem signedQuotient_zero (a : Word) : signedQuotient a 0 = 0 := rfl

theorem signedRemainder_zero (a : Word) : signedRemainder a 0 = 0 := rfl

theorem signedQuotient_overflow : signedQuotient 0x8000_0000 0xFFFF_FFFF = 0x8000_0000 := rfl

theorem signedRemainder_overflow : signedRemainder 0x8000_0000 0xFFFF_FFFF = 0 := rfl

section Divide

variable {a b : Word}

/-- But for MIN_INT / -1, the quotient of two words is a word. -/
theorem signedQuotient_toInt (hb : b ≠ 0) (h : ¬ (a = 0x8000_0000 ∧ b = 0xFFFF_FFFF)) :
    (signedQuotient a b).toInt = a.toInt.tdiv b.toInt := by
  have fits : (a.sdiv b).toInt = a.toInt.tdiv b.toInt := BitVec.toInt_sdiv_of_ne_or_ne a b (not_and_or.mp h)
  rw [signedQuotient, if_neg hb, minInt, if_neg h, ← fits, BitVec.ofInt_toInt]

theorem signedRemainder_toInt (hb : b ≠ 0) (h : ¬ (a = 0x8000_0000 ∧ b = 0xFFFF_FFFF)) :
    (signedRemainder a b).toInt = a.toInt.tmod b.toInt := by
  rw [signedRemainder, if_neg hb, minInt, if_neg h, ← BitVec.toInt_srem, BitVec.ofInt_toInt]

theorem unsignedQuotient_toNat (hb : b ≠ 0) : (unsignedQuotient a b).toNat = a.toNat / b.toNat := by
  rw [unsignedQuotient, if_neg hb, BitVec.toNat_ofNat, Nat.mod_eq_of_lt ((Nat.div_le_self _ _).trans_lt a.isLt)]

theorem unsignedRemainder_toNat (hb : b ≠ 0) : (unsignedRemainder a b).toNat = a.toNat % b.toNat := by
  rw [unsignedRemainder, if_neg hb, BitVec.toNat_ofNat, Nat.mod_eq_of_lt ((Nat.mod_le _ _).trans_lt a.isLt)]

end Divide

/-- Settles O24, by the cases of the definition: a zero divisor, MIN_INT by -1, and the exact value. -/
theorem signedDivide : Obligations.SignedDivide := by
  intro rd rs1 rs2 s
  refine ⟨runs_divideInto ?quotient, runs_divideInto ?remainder⟩
  case quotient =>
    split_ifs with zero overflow
    · rw [zero, signedQuotient_zero]
    · obtain ⟨least, minus_one⟩ := overflow
      rw [least, minus_one, signedQuotient_overflow]
    · exact signedQuotient_toInt zero overflow
  case remainder =>
    split_ifs with zero overflow
    · rw [zero, signedRemainder_zero]
    · obtain ⟨least, minus_one⟩ := overflow
      rw [least, minus_one, signedRemainder_overflow]
    · exact signedRemainder_toInt zero overflow

/-- Settles O25, by whether the divisor is zero. -/
theorem unsignedDivide : Obligations.UnsignedDivide := by
  intro rd rs1 rs2 s
  refine ⟨runs_divideInto ?quotient, runs_divideInto ?remainder⟩
  case quotient =>
    split_ifs with zero
    · exact if_pos zero
    · exact unsignedQuotient_toNat zero
  case remainder =>
    split_ifs with zero
    · exact if_pos zero
    · exact unsignedRemainder_toNat zero

theorem divideInto_reg {f : Word → Word → Word} {rd rs1 rs2 : RegIdx} {s t : State} (h : divideInto f rd rs1 rs2 s = .next t) :
    t.reg rd = f (s.reg rs1) (s.reg rs2) := by
  rw [(divideInto_next f rd rs1 rs2 s t).mp h, advance_reg, setReg_reg_same]

theorem toNat_pos {b : Word} (hb : b ≠ 0) : 0 < b.toNat := Nat.pos_of_ne_zero (BitVec.toNat_ne_iff_ne.mpr hb)

theorem natAbs_tmod_lt (a : Int) {b : Int} (hb : b ≠ 0) : (a.tmod b).natAbs < b.natAbs := by
  rw [Int.natAbs_tmod]
  exact Nat.mod_lt _ (Int.natAbs_pos.mpr hb)

theorem tmod_sign (a b : Int) : a.tmod b = 0 ∨ (a.tmod b < 0 ↔ a < 0) := by
  obtain negative | nonneg := lt_or_ge a 0
  · have : 0 ≤ (-a).tmod b := Int.tmod_nonneg b (by omega)
    rw [Int.neg_tmod] at this
    omega
  · have : 0 ≤ a.tmod b := Int.tmod_nonneg b nonneg
    omega

/-- Settles O26: the two results are quotient and remainder of the same words, and truncated division has these laws. -/
theorem divisionIdentities : Obligations.DivisionIdentities := by
  intro s rq rr rs1 rs2 t u v w nonzero ht hu hv hw
  rw [divideInto_reg ht, divideInto_reg hu, divideInto_reg hv, divideInto_reg hw, unsignedQuotient_toNat nonzero,
    unsignedRemainder_toNat nonzero]
  refine ⟨fun fits => ?signed, (Nat.div_add_mod _ _).symm, Nat.mod_lt _ (toNat_pos nonzero)⟩
  rw [signedQuotient_toInt nonzero fits, signedRemainder_toInt nonzero fits]
  exact ⟨(Int.mul_tdiv_add_tmod _ _).symm, natAbs_tmod_lt _ (BitVec.toInt_ne.mpr nonzero), tmod_sign _ _⟩

/-! ## Register pairs -/

theorem setPair_reg_first (s : State) (r : RegIdx) (first second : Word) : (s.setPair r first second).reg r = first := by
  rw [setPair_reg, if_neg (by bv_omega), if_pos rfl]

theorem setPair_reg_second (s : State) (r : RegIdx) (first second : Word) : (s.setPair r first second).reg (r + 1) = second := by
  rw [setPair_reg, if_pos rfl]

theorem halves_append (p : BitVec 64) : p.extractLsb' 32 32 ++ p.extractLsb' 0 32 = p :=
  BitVec.extractLsb'_append_extractLsb' (w := 32) (len := 32)

/-- An instruction whose last act is to write a pair, after what led to the state `u`. -/
theorem runs_setPair {w : Word} {i : Instr} {s u : State} {c : Word} {rd : RegIdx} {first second : Word}
    (P : Word → Word → Prop) (frame : Frame s u [rd, rd + 1] c s.pc) (value : P first second)
    (exec_eq : exec i s = finish (u.setPair rd first second) := by rfl) (word : encode i = w := by rfl)
    (hi : i.wellFormed = true := by rfl) :
    Runs w i s (fun t => P (t.reg rd) (t.reg (rd + 1)) ∧ Frame s t [rd, rd + 1] c (s.pc + 4)) :=
  runs_of_exec (exec_eq.trans ((finish_next _ _).mpr rfl))
    ⟨by rwa [advance_reg, advance_reg, setPair_reg_first, setPair_reg_second],
      frame_advance (frame_setPair frame (by simp) (by simp) _ _)⟩ word hi

/-! ## Long multiplication and division -/

theorem signedProduct_toInt (a b : Word) : (BitVec.ofInt 64 (a.toInt * b.toInt)).toInt = a.toInt * b.toInt := by
  have low : -2 ^ (32 * 2 - 2) ≤ a.toInt * b.toInt := BitVec.le_toInt_mul_toInt
  have high : a.toInt * b.toInt ≤ 2 ^ (32 * 2 - 2) := BitVec.toInt_mul_toInt_le
  exact BitVec.toInt_ofInt_eq_self (by decide) (by omega) (by omega)

theorem unsignedProduct_toNat (a b : Word) : (BitVec.ofNat 64 (a.toNat * b.toNat)).toNat = a.toNat * b.toNat := by
  have fits : a.toNat * b.toNat < 2 ^ 32 * 2 ^ 32 := Nat.mul_lt_mul'' a.isLt b.isLt
  rw [BitVec.toNat_ofNat]
  exact Nat.mod_eq_of_lt fits

/-- Settles O27: the product of two words fits in 64 bits, whose halves are the pair. -/
theorem longMultiply : Obligations.LongMultiply := by
  intro rd rs1 rs2 s
  refine ⟨runs_setPair (fun x y => (x ++ y).toInt = _) (frame_refl s _) ?signed,
    runs_setPair (fun x y => (x ++ y).toNat = _) (frame_refl s _) ?unsigned⟩
  case signed => rw [halves_append, signedProduct_toInt]
  case unsigned => rw [halves_append, unsignedProduct_toNat]

theorem execDivud_of_zero {rd rs1 rs2 : RegIdx} {s : State} (zero : s.reg rs2 = 0) :
    execDivud rd rs1 rs2 s = finish ((s.setFlag .DZ).setPair rd 0 0) :=
  if_pos (congrArg BitVec.toNat zero)

theorem execDivud_of_ne_zero {rd rs1 rs2 : RegIdx} {s : State} (nonzero : s.reg rs2 ≠ 0) :
    execDivud rd rs1 rs2 s = finish (s.setPair rd (BitVec.ofNat 32 ((s.pair rs1).toNat / (s.reg rs2).toNat))
      (BitVec.ofNat 32 ((s.pair rs1).toNat % (s.reg rs2).toNat))) :=
  if_neg (BitVec.toNat_ne_iff_ne.mpr nonzero)

/-- Settles O28, by whether the divisor is zero; the remainder is smaller than the divisor and so a word. -/
theorem longDivide : Obligations.LongDivide := by
  intro rd rs1 rs2 s n dv
  by_cases zero : dv = 0
  · simp only [if_pos zero, withDz]
    exact runs_setPair (fun x y => x = 0 ∧ y = 0) (frame_setFlag (frame_refl s _) .DZ) ⟨rfl, rfl⟩ (execDivud_of_zero zero)
  · simp only [if_neg zero, withDz]
    have dividend : (s.pair rs1).toNat = n := append_toNat _ _
    have remainder : n % dv.toNat < 2 ^ 32 := (Nat.mod_lt _ (toNat_pos zero)).trans dv.isLt
    refine runs_setPair (fun x y => x = BitVec.ofNat 32 (n / dv.toNat) ∧ y.toNat = n % dv.toNat) (frame_refl s _) ?_
      (execDivud_of_ne_zero zero)
    rw [dividend, BitVec.toNat_ofNat]
    exact ⟨rfl, Nat.mod_eq_of_lt remainder⟩

/-! ## Logical operations -/

theorem uimm16_getLsbD (imm : BitVec 16) {k : Nat} (hk : k < 32) :
    (uimm16 imm).getLsbD k = (decide (k < 16) && imm.getLsbD k) := by
  rw [uimm16, BitVec.getLsbD_setWidth, decide_eq_true hk, Bool.true_and]
  by_cases low : k < 16
  · rw [decide_eq_true low, Bool.true_and]
  · rw [decide_eq_false low, Bool.false_and, BitVec.getLsbD_of_ge _ _ (Nat.le_of_not_lt low)]

theorem upper16_getLsbD (imm : BitVec 16) (k : Nat) : (upper16 imm).getLsbD k = (decide (16 ≤ k) && imm.getLsbD (k - 16)) := by
  have bits : (upper16 imm).getLsbD k = if k < 16 then (0 : BitVec 16).getLsbD k else imm.getLsbD (k - 16) :=
    BitVec.getLsbD_append
  rw [bits]
  split_ifs with low
  · simp [low]
  · simp [Nat.le_of_not_lt low]

/-- Settles O29: a bit of the operation on words is the operation on their bits. -/
theorem logicalOperations : Obligations.LogicalOperations := by
  intro rd rs1 rs2 imm s
  refine ⟨runs_writesRdSuch fun k hk => ?andi, runs_writesRdSuch fun k hk => ?ori,
    runs_writesRdSuch fun k hk => ?xori, runs_writesRdSuch fun k _ => ?oru,
    runs_writesRdSuch fun k _ => BitVec.getLsbD_and, runs_writesRdSuch fun k _ => BitVec.getLsbD_or,
    runs_writesRdSuch fun k _ => BitVec.getLsbD_xor⟩
  case andi => rw [BitVec.getLsbD_and, uimm16_getLsbD imm hk]
  case ori => rw [BitVec.getLsbD_or, uimm16_getLsbD imm hk]
  case xori => rw [BitVec.getLsbD_xor, uimm16_getLsbD imm hk]
  case oru => rw [BitVec.getLsbD_or, upper16_getLsbD]

/-! ## Comparison -/

theorem getLsbD_assignFlag_same (c : Word) (f : Flag) (v : Bool) : (assignFlag c f v).getLsbD f.bit = v := by
  have on : f.mask.getLsbD f.bit = true := (flag_mask_getLsbD f f.bit).mpr rfl
  cases v with
  | true => simp [assignFlag, on]
  | false => simp [assignFlag, on]

section IntCompare

variable (s : State) (eq lt gt : Bool)

theorem getLsbD_setIntCompare_eq : (s.setIntCompare eq lt gt).cr0.getLsbD 0 = eq := by
  rw [setIntCompare_cr0, getLsbD_assignFlag _ gt (by decide), getLsbD_assignFlag _ lt (by decide)]
  exact getLsbD_assignFlag_same _ .EQ eq

theorem getLsbD_setIntCompare_lt : (s.setIntCompare eq lt gt).cr0.getLsbD 1 = lt := by
  rw [setIntCompare_cr0, getLsbD_assignFlag _ gt (by decide)]
  exact getLsbD_assignFlag_same _ .LT lt

theorem getLsbD_setIntCompare_gt : (s.setIntCompare eq lt gt).cr0.getLsbD 2 = gt := getLsbD_assignFlag_same _ .GT gt

theorem getLsbD_setIntCompare_other {k : Nat} (hk : 3 ≤ k) : (s.setIntCompare eq lt gt).cr0.getLsbD k = s.cr0.getLsbD k := by
  have ne {f : Flag} (hf : f.bit < 3) : f.bit ≠ k := by omega
  rw [setIntCompare_cr0, getLsbD_assignFlag _ gt (ne (by decide)), getLsbD_assignFlag _ lt (ne (by decide)),
    getLsbD_assignFlag _ eq (ne (by decide))]

end IntCompare

theorem runs_setIntCompare {w : Word} {i : Instr} {s : State} {eq lt gt : Bool}
    (exec_eq : exec i s = finish (s.setIntCompare eq lt gt) := by rfl) (word : encode i = w := by rfl)
    (hi : i.wellFormed = true := by rfl) :
    Runs w i s (fun t => t.cr0.getLsbD 0 = eq ∧ t.cr0.getLsbD 1 = lt ∧ t.cr0.getLsbD 2 = gt ∧
      (∀ k, 3 ≤ k → t.cr0.getLsbD k = s.cr0.getLsbD k) ∧ Frame s t [] t.cr0 (s.pc + 4)) :=
  runs_of_exec (exec_eq.trans ((finish_next _ _).mpr rfl))
    ⟨getLsbD_setIntCompare_eq s eq lt gt, getLsbD_setIntCompare_lt s eq lt gt, getLsbD_setIntCompare_gt s eq lt gt,
      fun _ hk => getLsbD_setIntCompare_other s eq lt gt hk,
      frame_advance (frame_setIntCompare (frame_refl s []) eq lt gt)⟩ word hi

/-- Settles O30: both compares write the three flags of their relation, signed or unsigned. -/
theorem integerCompare : Obligations.IntegerCompare :=
  fun _ _ _ => ⟨runs_setIntCompare, runs_setIntCompare⟩

/-! ## Bit fields and rotation -/

theorem fieldWidth_eq (b : Word) : fieldWidth b = b.toNat % 32 := by simp [fieldWidth]

theorem fieldOffset_eq (b : Word) : fieldOffset b = b.toNat / 32 % 32 := field_toNat b 5 5

/-- Width 0 is the empty field. -/
theorem fieldMask_getLsbD (b : Word) (k : Nat) : (fieldMask b).getLsbD k = decide (k < fieldWidth b) := by
  have width : fieldWidth b < 32 := (b.extractLsb' 0 5).isLt
  by_cases zero : fieldWidth b = 0
  · simp [fieldMask, zero]
  · simp only [fieldMask, if_neg zero, BitVec.getLsbD_ofNat, Nat.testBit_two_pow_sub_one, ← Bool.decide_and, decide_eq_decide]
    omega

theorem extract_getLsbD (a b : Word) (k : Nat) :
    (a >>> fieldOffset b &&& fieldMask b).getLsbD k = (decide (k < fieldWidth b) && a.getLsbD (k + fieldOffset b)) := by
  rw [BitVec.getLsbD_and, BitVec.getLsbD_ushiftRight, fieldMask_getLsbD, Bool.and_comm, Nat.add_comm]

theorem make_getLsbD (a b : Word) {k : Nat} (hk : k < 32) :
    ((a &&& fieldMask b) <<< fieldOffset b).getLsbD k =
      (decide (fieldOffset b ≤ k ∧ k < fieldOffset b + fieldWidth b) && a.getLsbD (k - fieldOffset b)) := by
  rw [BitVec.getLsbD_shiftLeft, BitVec.getLsbD_and, fieldMask_getLsbD]
  by_cases h : fieldOffset b ≤ k
  · have below : k - fieldOffset b < fieldWidth b ↔ k < fieldOffset b + fieldWidth b := by omega
    simp [hk, h, Nat.not_lt.mpr h, below, Bool.and_comm]
  · simp [h, Nat.lt_of_not_le h]

/-- The low bits come from above by the right shift, the high ones from below by the left shift. -/
theorem rotateRight_getLsbD (a : Word) {n k : Nat} (hn : n < 32) (hk : k < 32) :
    (rotateRight a n).getLsbD k = a.getLsbD ((k + n) % 32) := by
  by_cases zero : n = 0
  · simp [rotateRight, zero, Nat.mod_eq_of_lt hk]
  rw [rotateRight, if_neg zero, BitVec.getLsbD_or, BitVec.getLsbD_ushiftRight, BitVec.getLsbD_shiftLeft]
  by_cases inside : k + n < 32
  · have low : k < 32 - n := by omega
    rw [Nat.mod_eq_of_lt inside, Nat.add_comm n k]
    simp [low]
  · have wrapped : (k + n) % 32 = k - (32 - n) := by omega
    have high : ¬ k < 32 - n := by omega
    have beyond : a.getLsbD (n + k) = false := BitVec.getLsbD_of_ge _ _ (by omega)
    simp [hk, high, wrapped, beyond]

/-- Settles O31: width and offset are the two low fields of b, and each result is read bit by bit. -/
theorem bitFieldsAndRotate : Obligations.BitFieldsAndRotate := by
  intro rd rs1 rs2 s
  dsimp only
  rw [← fieldWidth_eq, ← fieldOffset_eq]
  exact ⟨runs_writesRdSuch fun k _ => extract_getLsbD _ _ k,
    runs_writesRdSuch fun k hk => make_getLsbD _ _ hk,
    runs_writesRdSuch fun k hk => rotateRight_getLsbD _ (BitVec.isLt _) hk⟩

/-! ## Find first -/

theorem findFirst_spec (b : Bool) (a : Word) :
    (findFirst b a).toNat ≤ 32 ∧ (∀ k < (findFirst b a).toNat, a.getLsbD k = !b) ∧
      ((findFirst b a).toNat < 32 → a.getLsbD (findFirst b a).toNat = b) := by
  cases found : (List.range 32).find? (fun i => a.getLsbD i == b) with
  | none =>
    have none_of_them : ∀ k < 32, a.getLsbD k ≠ b := by simpa using found
    have result : (findFirst b a).toNat = 32 := by simp [findFirst, found]
    rw [result]
    exact ⟨le_rfl, fun k hk => Bool.eq_not.mpr (none_of_them k hk), fun h => absurd h (lt_irrefl 32)⟩
  | some i =>
    obtain ⟨here, inside, before⟩ := List.find?_range_eq_some.mp found
    have inside : i < 32 := List.mem_range.mp inside
    have result : (findFirst b a).toNat = i := by
      simp only [findFirst, found, Option.getD_some, BitVec.toNat_ofNat]
      omega
    rw [result]
    exact ⟨inside.le, fun k hk => Bool.eq_not.mpr (by simpa using before k hk), fun _ => eq_of_beq here⟩

/-- Settles O32: both scans are `findFirst`, for a one and for a zero. -/
theorem findFirstBit : Obligations.FindFirstBit :=
  fun _ _ _ => ⟨runs_writesRdSuch (findFirst_spec true _), runs_writesRdSuch (findFirst_spec false _)⟩

/-! ## Extensions of the low byte and half -/

theorem sext8_toInt (v : Word) : (sext8 v).toInt = (BitVec.ofNat 8 v.toNat).toInt := by
  rw [sext8, BitVec.toInt_signExtend_of_le (by decide), BitVec.ofNat_toNat]

theorem sext16_toInt (v : Word) : (sext16 v).toInt = (BitVec.ofNat 16 v.toNat).toInt := by
  rw [sext16, BitVec.toInt_signExtend_of_le (by decide), BitVec.ofNat_toNat]

theorem zext8_toNat (v : Word) : (zext8 v).toNat = v.toNat % 256 := by
  rw [zext8, BitVec.toNat_setWidth_of_le (by decide), BitVec.toNat_setWidth]

theorem zext16_toNat (v : Word) : (zext16 v).toNat = v.toNat % 65536 := by
  rw [zext16, BitVec.toNat_setWidth_of_le (by decide), BitVec.toNat_setWidth]

/-- Settles O33: each value is its extension, read as a number. -/
theorem byteAndHalfExtracts : Obligations.ByteAndHalfExtracts :=
  fun _ _ _ => ⟨runs_writesRdSuch (sext8_toInt _), runs_writesRdSuch (zext8_toNat _),
    runs_writesRdSuch (sext16_toInt _), runs_writesRdSuch (zext16_toNat _)⟩

end Sys2Proof.Proofs

/-! SUPPORT and PROOFS. The control-flow, trap and control-register instructions (41_control.md): where each instruction leaves pc, and
the statements about the instructions of the family. -/

namespace Sys2Proof.Proofs

open Sys2Proof Sys2Proof.Machine Sys2Proof.Claims

/-! ## pc after the shared ends of instructions, entered from a state `u` that has the pc of `s` -/

section Pc

variable {s u t : State}

theorem finish_pc (h : finish u = .next t) (same : u.pc = s.pc := by simp) : t.pc = s.pc + 4 := by
  rw [(finish_next u t).mp h, advance_pc, same]

theorem writeBack_pc {rd : RegIdx} {v : Word} (h : writeBack rd v u = .next t) (same : u.pc = s.pc := by simp) :
    t.pc = s.pc + 4 := by
  rw [(writeBack_next rd v u t).mp h, advance_pc, setReg_pc, same]

theorem loadRegister_pc {n : Nat} {ext : Word → Word} {rd : RegIdx} {ea : Word} (h : loadRegister n ext rd ea u = .next t)
    (same : u.pc = s.pc := by simp) : t.pc = s.pc + 4 := by
  obtain ⟨e, -, rfl⟩ | ⟨v, -, rfl⟩ := (loadRegister_next n ext rd ea u t).mp h
  · rw [takeException_pc, same]
  · rw [advance_pc, setReg_pc, same]

theorem memWrite_pc (u : State) (ea : Word) (bs : List Byte) : (memWrite u ea bs).1.pc = u.pc := by
  obtain ⟨m, hm, -, -⟩ := memWrite_memory bs u ea
  rw [hm]

theorem storeBytes_pc {ea : Word} {bs : List Byte} (h : storeBytes ea bs u = .next t) (same : u.pc = s.pc := by simp) :
    t.pc = s.pc + 4 := by
  obtain ⟨-, rfl⟩ | ⟨e, -, rfl⟩ := (storeBytes_next ea bs u t).mp h
  · rw [advance_pc, memWrite_pc, same]
  · rw [takeException_pc, memWrite_pc, same]

/-- The exception of User mode advances, so the effect decides. -/
theorem supervisorOnly_pc {e : State} (h : supervisorOnly s e = .next t) (advances : e.pc = s.pc + 4 := by simp) :
    t.pc = s.pc + 4 := by
  obtain ⟨-, rfl⟩ | ⟨-, rfl⟩ := (supervisorOnly_next s e t).mp h
  · exact takeException_pc s .PRV
  · exact advances

/-! ## pc after the instructions whose meanings have cases -/

theorem execDivud_pc {rd rs1 rs2 : RegIdx} (h : execDivud rd rs1 rs2 s = .next t) : t.pc = s.pc + 4 := by
  simp only [execDivud] at h
  split at h
  · exact finish_pc h
  · exact finish_pc h

theorem execFdiv_pc {rd rs1 rs2 : RegIdx} (h : execFdiv rd rs1 rs2 s = .next t) : t.pc = s.pc + 4 := by
  simp only [execFdiv] at h
  split at h
  · split at h
    · exact writeBack_pc h
    · exact writeBack_pc h
  · exact writeBack_pc h

theorem execInt_pc {rd rs1 : RegIdx} (h : execInt rd rs1 s = .next t) : t.pc = s.pc + 4 := by
  simp only [execInt] at h
  split at h
  · exact writeBack_pc h
  split at h
  · exact writeBack_pc h
  split at h
  · exact writeBack_pc h
  · exact writeBack_pc h

theorem execXlate_pc {rd rs1 : RegIdx} (h : execXlate rd rs1 s = .next t) : t.pc = s.pc + 4 := by
  unfold execXlate at h
  split at h
  · exact writeBack_pc h
  · cases h
    rfl

theorem execLdd_pc {rd rs1 : RegIdx} {imm : BitVec 16} (h : execLdd rd rs1 imm s = .next t) : t.pc = s.pc + 4 := by
  simp only [execLdd] at h
  split at h
  · cases h
    rfl
  · exact loadRegister_pc h

/-- The low word is stored from the state that the high word has left, with the old pc. -/
theorem execStd_pc {rs rs1 : RegIdx} {imm : BitVec 16} (h : execStd rs rs1 imm s = .next t) : t.pc = s.pc + 4 := by
  have first := memWrite_pc s (s.effectiveAddress rs1 imm) (bytesOf 4 (s.reg rs))
  simp only [execStd] at h
  split at h
  case h_1 u e hu =>
    rw [hu] at first
    cases h
    rw [takeException_pc, first]
  case h_2 u hu =>
    rw [hu] at first
    exact storeBytes_pc h first

theorem execTbnd_pc {rs1 rs2 : RegIdx} (h : execTbnd rs1 rs2 s = .next t) : t.pc = s.pc + 4 := by
  unfold execTbnd at h
  split at h
  · cases h
    rfl
  · exact finish_pc h

theorem crLegal_iff {crN : BitVec 5} : crLegal crN = true ↔ crN = 0 ∨ crN = 1 := by simp [crLegal]

theorem execLdcr_pc {rd : RegIdx} {crN : BitVec 5} (hi : crLegal crN = true) (h : execLdcr rd crN s = .next t) :
    t.pc = s.pc + 4 := by
  obtain rfl | rfl := crLegal_iff.mp hi
  · exact writeBack_pc h
  · exact writeBack_pc h

theorem execStcr_pc {rs1 : RegIdx} {crN : BitVec 5} (hi : crLegal crN = true) (h : execStcr rs1 crN s = .next t) :
    t.pc = s.pc + 4 := by
  obtain rfl | rfl := crLegal_iff.mp hi
  · exact supervisorOnly_pc h
  · exact supervisorOnly_pc h

end Pc

/-! ## Control transfer (41_control.md R216) -/

/-- The instructions that may leave pc at anything but pc + 4, rte in Supervisor mode alone. -/
def MayRedirect (i : Instr) (s : State) : Prop :=
  (∃ a b off, i = .beq a b off ∨ i = .bne a b off ∨ i = .blt a b off ∨ i = .bge a b off ∨ i = .bgt a b off ∨ i = .ble a b off) ∨
    (∃ r, i = .jmp r ∨ i = .jsr r) ∨ (i = .rte ∧ s.priv = .supervisor)

theorem execRte_pc {s t : State} (h : execRte s = .next t) : t.pc = s.pc + 4 ∨ s.priv = .supervisor := by
  obtain ⟨-, rfl⟩ | ⟨supervisor, -⟩ := (supervisorOnly_next s _ t).mp h
  · exact .inl (takeException_pc s .PRV)
  · exact .inr supervisor

theorem exec_pc {i : Instr} {s t : State} (hi : i.wellFormed = true) (h : exec i s = .next t) :
    t.pc = s.pc + 4 ∨ MayRedirect i s := by
  cases i with
  | addi | andi | ori | xori | oru | add | sub | mul | and | or | xor | extu | mak | rot | ff1 | ff0 | sextb | zextb | sexth | zexth
  | flt | vcmpeq | vcmpgt | vcmplt | vmin | vmax | vshuf | vinth | vintl | vextb | vextbi | vinsb | vinsbi | vpack | vunpkl
  | vunpkh | div | divu | rem | remu | fadd | fmul | fsub => exact .inl (writeBack_pc h)
  | muls | mulu | cmp | cmpu | fcmp | vadd | vsub | vmul | vdiv | vmov | prefetch => exact .inl (finish_pc h)
  | divud => exact .inl (execDivud_pc h)
  | fdiv => exact .inl (execFdiv_pc h)
  | int => exact .inl (execInt_pc h)
  | ldb | ldbu | ldh | ldhu | ldw => exact .inl (loadRegister_pc h)
  | ldd => exact .inl (execLdd_pc h)
  | stb | sth | stw => exact .inl (storeBytes_pc h)
  | std => exact .inl (execStd_pc h)
  | trap => cases h; exact .inl rfl
  | tbnd => exact .inl (execTbnd_pc h)
  | ldcr => exact .inl (execLdcr_pc hi h)
  | stcr => exact .inl (execStcr_pc hi h)
  | icache | dcache | flush | inval | ldptb | tlbinv => exact .inl (supervisorOnly_pc h)
  | xlate => exact .inl (execXlate_pc h)
  | beq a b off | bne a b off | blt a b off | bge a b off | bgt a b off | ble a b off => exact .inr (.inl ⟨a, b, off, by simp⟩)
  | jmp r | jsr r => exact .inr (.inr (.inl ⟨r, by simp⟩))
  | rte => exact (execRte_pc h).imp_right fun supervisor => .inr (.inr ⟨rfl, supervisor⟩)

/-- Settles O19: every other instruction ends in the advance. -/
theorem onlyControlFlowRedirects : Obligations.OnlyControlFlowRedirects :=
  fun _ _ _ hi h elsewhere => (exec_pc hi h).resolve_left elsewhere

/-! ## Branches and jumps -/

theorem frame_redirect {s u : State} {rds : List RegIdx} {c p : Word} (h : Frame s u rds c p) (a : Word) :
    Frame s (u.redirect a) rds c a :=
  { h with
    pc := redirect_pc u a
    system := sameSystem_trans h.system ((OrdinaryEffect.refl u).redirect a).system }

/-- The offset counts bytes from the address of the branch, modulo 2^32 (41_control.md R200). -/
theorem branchTarget_eq_ofInt (s : State) (off : BitVec 16) :
    s.branchTarget off = BitVec.ofInt 32 (s.pc.toNat + off.toInt) := by
  rw [BitVec.ofInt_add, BitVec.ofInt_natCast, BitVec.ofNat_toNat, BitVec.setWidth_eq, State.branchTarget, simm16, BitVec.signExtend]

/-- What a conditional branch comes to. -/
def Branches (s : State) (off : BitVec 16) (taken : Prop) (t : State) : Prop :=
  (taken → t.pc = BitVec.ofInt 32 (s.pc.toNat + off.toInt)) ∧ (¬ taken → t.pc = s.pc + 4) ∧ Frame s t [] s.cr0 t.pc

theorem runs_branchWhen {w : Word} {i : Instr} {s : State} {off : BitVec 16} {taken : Prop} [Decidable taken]
    (exec_eq : exec i s = branchWhen (decide taken) off s := by rfl) (word : encode i = w := by rfl)
    (hi : i.wellFormed = true := by rfl) : Runs w i s (Branches s off taken) := by
  by_cases condition : taken
  · have next := (branchWhen_next (decide taken) off s _).mpr (.inl ⟨decide_eq_true condition, rfl⟩)
    exact runs_of_exec (exec_eq.trans next)
      ⟨fun _ => branchTarget_eq_ofInt s off, fun not => absurd condition not, frame_redirect (frame_refl s []) _⟩ word hi
  · have next := (branchWhen_next (decide taken) off s _).mpr (.inr ⟨decide_eq_false condition, rfl⟩)
    exact runs_of_exec (exec_eq.trans next)
      ⟨fun taken => absurd taken condition, fun _ => rfl, frame_advance (frame_refl s [])⟩ word hi

/-- Settles O34: the six are `branchWhen` of their relation. -/
theorem conditionalBranches : Obligations.ConditionalBranches :=
  fun _ _ _ _ => ⟨runs_branchWhen, runs_branchWhen, runs_branchWhen, runs_branchWhen, runs_branchWhen, runs_branchWhen⟩

/-- Settles O35: the link of jsr is written to the register whose old value is the target. -/
theorem registerJumps : Obligations.RegisterJumps := by
  intro rs1 s
  refine ⟨runs_of_exec rfl ?jump, runs_of_exec rfl ⟨?link, ?frame⟩⟩
  case jump => exact frame_redirect (frame_refl s []) (s.reg rs1)
  case link => rw [redirect_reg, setReg_reg_same]
  case frame => exact frame_redirect (frame_setReg (frame_refl s [rs1]) (List.mem_singleton_self rs1) (s.pc + 4)) (s.reg rs1)

/-! ## Trap, bounds check and return -/

/-- Settles O36: tbnd by whether the bound is exceeded; trap is one next state. -/
theorem trapAndBoundsCheck : Obligations.TrapAndBoundsCheck := by
  intro rs1 rs2 vec s
  refine ⟨runs_of_exec rfl rfl, ?tbnd⟩
  by_cases exceeds : (s.reg rs2).toNat < (s.reg rs1).toNat
  · rw [if_pos exceeds]
    exact runs_of_exec (if_pos exceeds) (frame_advance (frame_setFlag (frame_refl s []) .BND))
  · rw [if_neg exceeds]
    exact runs_of_exec (if_neg exceeds) (frame_advance (frame_refl s []))

theorem supervisorOnly_of_supervisor {s : State} (supervisor : s.priv = .supervisor) (effect : State) :
    supervisorOnly s effect = .next effect :=
  (supervisorOnly_next s effect effect).mpr (.inr ⟨supervisor, rfl⟩)

/-- Settles O37: rte is one of the supervisor-only instructions, and its effect is the return. -/
theorem returnFromException : Obligations.ReturnFromException :=
  fun s => ⟨decode_of_encode_eq rfl rfl, fun supervisor => supervisorOnly_of_supervisor supervisor s.returnFromException,
    fun user => exec_gated_user rfl (.inl rfl) user⟩

/-! ## Control registers -/

theorem crLegal_of_lt_two {crN : BitVec 5} (h : crN.toNat < 2) : crLegal crN = true := crLegal_iff.mpr (by bv_omega)

theorem stcr_gated (rs1 : RegIdx) (crN : BitVec 5) : Gated (.stcr rs1 crN) := by simp [Gated]

/-- Settles O38: ldcr writes one register; stcr is its effect in Supervisor mode and its exception in User mode; other numbers are
rejected by the decoder. -/
theorem controlRegisterTransfer : Obligations.ControlRegisterTransfer := by
  intro rd rs1 s
  refine ⟨runs_writesRd rfl, runs_writesRdSuch ?tvec, decode_of_encode_eq rfl rfl, decode_of_encode_eq rfl rfl, ?illegal, ?cr0, ?cr1,
    ?user⟩
  case tvec => exact BitVec.toNat_setWidth_of_le (by decide)
  case illegal =>
    intro c two_le
    have illegal := crLegal_of_two_le two_le
    exact ⟨⟨_, decode_ldcr_illegal illegal⟩, ⟨_, decode_stcr_illegal illegal⟩⟩
  case cr0 => exact fun supervisor => supervisorOnly_of_supervisor supervisor _
  case cr1 =>
    intro supervisor
    rw [BitVec.ofNat_toNat]
    exact supervisorOnly_of_supervisor supervisor _
  case user => exact fun user c legal => exec_gated_user (crLegal_of_lt_two legal) (stcr_gated rs1 c) user

end Sys2Proof.Proofs

/-! SUPPORT. Binary32 patterns (42_float.md R230, R232): the 31 bits below the sign as a number, the classes as ranges of that number,
and the magnitude as a strictly increasing function of it. -/

namespace Sys2Proof.Proofs

open Sys2Proof Sys2Proof.Machine Sys2Proof.Claims

/-! ## The 31 bits below the sign -/

/-- The pattern without its sign. It orders the magnitudes: `codeValue_strictMono`. -/
def code (w : Word) : Nat := w.toNat % 2 ^ 31

section Classes

variable (w : Word)

theorem exponent_eq : (w.extractLsb' 23 8).toNat = code w / 2 ^ 23 := by
  rw [field_toNat, code]
  omega

theorem fraction_eq : (w.extractLsb' 0 23).toNat = code w % 2 ^ 23 := by
  rw [field_toNat, code]
  omega

theorem exponent_ones_iff : (w.extractLsb' 23 8 == 0xFF) = true ↔ code w / 2 ^ 23 = 0xFF := by
  rw [beq_iff_eq, ← BitVec.toNat_inj, exponent_eq]
  rfl

theorem fraction_zero_iff : (w.extractLsb' 0 23 == 0) = true ↔ code w % 2 ^ 23 = 0 := by
  rw [beq_iff_eq, ← BitVec.toNat_inj, fraction_eq]
  rfl

theorem code_lt : code w < 2 ^ 31 := Nat.mod_lt _ (by positivity)

theorem isNaN_iff : isNaN w = true ↔ 0x7F80_0000 < code w := by
  rw [isNaN, Bool.and_eq_true, exponent_ones_iff, bne, Bool.not_eq_true', ← Bool.not_eq_true, fraction_zero_iff]
  have := code_lt w
  omega

theorem isInf_iff : isInf w = true ↔ code w = 0x7F80_0000 := by
  rw [isInf, Bool.and_eq_true, exponent_ones_iff, fraction_zero_iff]
  omega

theorem isZero_iff : isZero w = true ↔ code w = 0 := by
  simp only [isZero, code, beq_iff_eq, ← BitVec.toNat_inj, field_toNat]
  simp

theorem isFinite_iff : IsFinite w ↔ code w < 0x7F80_0000 := by
  rw [IsFinite, ← Bool.not_eq_true, ← Bool.not_eq_true, isNaN_iff, isInf_iff]
  omega

theorem isNaN_eq_false_iff : isNaN w = false ↔ code w ≤ 0x7F80_0000 := by
  rw [← Bool.not_eq_true, isNaN_iff, Nat.not_lt]

theorem code_getLsbD_zero : w.getLsbD 0 = decide (code w % 2 = 1) := by
  rw [BitVec.getLsbD, Nat.testBit_zero, code]
  congr 2
  omega

end Classes

theorem isNaN_of_isInf {w : Word} (h : isInf w = true) : isNaN w = false := by
  rw [isNaN_eq_false_iff, (isInf_iff w).mp h]

theorem not_isInf_of_isFinite {w : Word} (h : IsFinite w) : ¬ isInf w = true := Bool.not_eq_true _ ▸ h.2

theorem isFinite_of_not {w : Word} (nan : ¬ isNaN w = true) (inf : ¬ isInf w = true) : IsFinite w :=
  ⟨Bool.eq_false_iff.mpr nan, Bool.eq_false_iff.mpr inf⟩

theorem isFinite_of_isZero {w : Word} (h : isZero w = true) : IsFinite w := by
  rw [isFinite_iff, (isZero_iff w).mp h]
  decide

theorem not_isInf_and_isZero (w : Word) : ¬ (isInf w = true ∧ isZero w = true) := fun ⟨inf, zero⟩ =>
  not_isInf_of_isFinite (isFinite_of_isZero zero) inf

/-! ### Patterns put together, and a flipped sign -/

section WithSign

variable (neg : Bool) (m : BitVec 31) (w : Word)

@[simp] theorem code_withSign : code (withSign neg m) = m.toNat := by
  have := m.isLt
  rw [code, withSign, append_toNat]
  omega

@[simp] theorem signBit_withSign : signBit (withSign neg m) = neg := by
  rw [signBit, withSign, BitVec.getLsbD_append]
  simp

@[simp] theorem code_negated : code (negated w) = code w := by
  simp only [code, negated, ← BitVec.toNat_setWidth, BitVec.setWidth_xor]
  simp

@[simp] theorem signBit_negated : signBit (negated w) = !signBit w := by
  rw [signBit, negated, BitVec.getLsbD_xor]
  exact Bool.xor_true _

end WithSign

theorem isNaN_negated (w : Word) : isNaN (negated w) = isNaN w := by
  rw [Bool.eq_iff_iff, isNaN_iff, isNaN_iff, code_negated]

theorem isInf_negated (w : Word) : isInf (negated w) = isInf w := by
  rw [Bool.eq_iff_iff, isInf_iff, isInf_iff, code_negated]

theorem isFinite_negated {w : Word} : IsFinite (negated w) ↔ IsFinite w := by
  rw [isFinite_iff, isFinite_iff, code_negated]

/-! ## The magnitude of a code -/

/-- The magnitude in units of 2^-149. Exponents 0 and 1 share the spacing of one unit, and each further exponent doubles it. -/
def codeValue (p : Nat) : Nat := (p - (p / 2 ^ 23 - 1) * 2 ^ 23) * 2 ^ (p / 2 ^ 23 - 1)

theorem magnitude_eq (w : Word) : magnitude w = codeValue (code w) := by
  rw [magnitude, exponent_eq, fraction_eq, codeValue]
  split
  case isTrue subnormal => rw [subnormal, Nat.zero_sub, Nat.zero_mul, pow_zero, Nat.mul_one]; omega
  case isFalse normal => congr 1; omega

/-- `m` spacings of size `2 ^ k` are a value; the largest `m` is the carry into the next exponent. -/
theorem codeValue_of_significand {k m : Nat} (normal : k = 0 ∨ 2 ^ 23 ≤ m) (le : m ≤ 2 ^ 24) :
    codeValue (k * 2 ^ 23 + m) = m * 2 ^ k := by
  rw [codeValue]
  obtain lt | rfl := Nat.lt_or_eq_of_le le
  · rw [show (k * 2 ^ 23 + m) / 2 ^ 23 - 1 = k by omega, Nat.add_sub_cancel_left]
  · rw [show (k * 2 ^ 23 + 2 ^ 24) / 2 ^ 23 - 1 = k + 1 by omega, pow_succ 2 k]
    rw [show k * 2 ^ 23 + 2 ^ 24 - (k + 1) * 2 ^ 23 = 2 ^ 23 by omega]
    ring

theorem exists_significand (p : Nat) : ∃ k m, (k = 0 ∨ 2 ^ 23 ≤ m) ∧ m < 2 ^ 24 ∧ p = k * 2 ^ 23 + m :=
  ⟨p / 2 ^ 23 - 1, p - (p / 2 ^ 23 - 1) * 2 ^ 23, by omega, by omega, by omega⟩

theorem codeValue_strictMono : StrictMono codeValue := by
  refine strictMono_nat_of_lt_succ fun p => ?_
  obtain ⟨k, m, normal, lt, rfl⟩ := exists_significand p
  rw [Nat.add_assoc, codeValue_of_significand normal lt.le, codeValue_of_significand (by omega) lt]
  exact Nat.mul_lt_mul_of_pos_right m.lt_succ_self (by positivity)

/-- From `2 ^ (23 + k)` on, values are at least `2 ^ k` apart. -/
theorem codeValue_spacing (k p : Nat) : codeValue p < 2 ^ (23 + k) ∨ 2 ^ k ∣ codeValue p := by
  obtain ⟨j, m, normal, lt, rfl⟩ := exists_significand p
  rw [codeValue_of_significand normal lt.le]
  obtain fine | coarse := Nat.lt_or_ge j k
  · left
    calc m * 2 ^ j < 2 ^ 24 * 2 ^ j := Nat.mul_lt_mul_of_pos_right lt (by positivity)
      _ = 2 ^ (24 + j) := by rw [pow_add]
      _ ≤ 2 ^ (23 + k) := Nat.pow_le_pow_right two_pos (by omega)
  · exact .inr (Dvd.dvd.mul_left (pow_dvd_pow 2 coarse) m)

/-! ## Signed values -/

/-- `v` with its sign flipped when `neg`. -/
def signed (neg : Bool) (v : Int) : Int := if neg then -v else v

@[simp] theorem signed_false (v : Int) : signed false v = v := if_neg Bool.false_ne_true

@[simp] theorem signed_true (v : Int) : signed true v = -v := if_pos rfl

@[simp] theorem signed_zero (neg : Bool) : signed neg 0 = 0 := by cases neg <;> simp

theorem exactValue_eq (w : Word) : exactValue w = signed (signBit w) (codeValue (code w)) := by
  rw [exactValue, magnitude_eq, signed]

theorem exactValue_negated (w : Word) : exactValue (negated w) = -exactValue w := by
  rw [exactValue_eq, exactValue_eq, code_negated, signBit_negated]
  cases signBit w <;> simp

end Sys2Proof.Proofs

/-! SUPPORT. Rounding (42_float.md R231): the division to the nearest integer, the significand and exponent that `roundMagnitude` picks,
and the one theorem that every operation cites, `roundTo_roundsTo`. -/

namespace Sys2Proof.Proofs

open Sys2Proof Sys2Proof.Machine Sys2Proof.Claims

/-! ## The nearest integer -/

/-- `m` is an integer nearest to `n / d`, and an even one when two are. -/
structure NearestInt (n d m : Nat) : Prop where
  near : 2 * ((m * d : Nat) - n : Int).natAbs ≤ d
  even_of_tie : 2 * ((m * d : Nat) - n : Int).natAbs = d → m % 2 = 0

theorem divNearestEven_nearest (n : Nat) {d : Nat} (pos : 0 < d) : NearestInt n d (divNearestEven n d) := by
  have quotient := Nat.div_add_mod' n d
  have remainder := Nat.mod_lt n pos
  rw [divNearestEven]
  generalize n / d = q at *
  generalize n % d = r at *
  have next : (q + 1) * d = q * d + d := Nat.succ_mul q d
  split
  case isTrue down => exact ⟨by omega, by omega⟩
  split
  case isTrue up => exact ⟨by omega, by omega⟩
  case isFalse tie =>
    obtain even | odd := Nat.mod_two_eq_zero_or_one q
    · rw [even, Nat.add_zero]; exact ⟨by omega, by omega⟩
    · rw [odd]; exact ⟨by omega, by omega⟩

theorem NearestInt.closest {n d m : Nat} (h : NearestInt n d m) (j : Int) :
    ((m * d : Nat) - n : Int).natAbs ≤ (j * d - n).natAbs ∧
    (((m * d : Nat) - n : Int).natAbs = (j * d - n).natAbs → j ≠ m → m % 2 = 0) := by
  have near := h.near
  have even_of_tie := h.even_of_tie
  obtain below | rfl | above := lt_trichotomy j m
  · have : j * d ≤ (m - 1) * d := Int.mul_le_mul_of_nonneg_right (by omega) (by omega)
    rw [Int.sub_mul, Int.one_mul] at this
    push_cast at *
    exact ⟨by omega, fun _ _ => by omega⟩
  · exact ⟨by push_cast; rfl, fun _ ne => absurd rfl ne⟩
  · have : (m + 1) * d ≤ j * d := Int.mul_le_mul_of_nonneg_right (by omega) (by omega)
    rw [Int.add_mul, Int.one_mul] at this
    push_cast at *
    exact ⟨by omega, fun _ _ => by omega⟩

/-! ## The significand and the exponent -/

/-- `n / d` lies in the binade whose values are `2 ^ k` apart (or below it, for `k = 0`), and `m` is the nearest number of
spacings. -/
structure Rounded (n d k m : Nat) : Prop where
  nearest : NearestInt n (d * 2 ^ k) m
  normal : k = 0 ∨ 2 ^ 23 * (d * 2 ^ k) ≤ n
  below : n < 2 ^ 24 * (d * 2 ^ k)

theorem roundMagnitude_rounded (n : Nat) {d : Nat} (pos : 0 < d) :
    ∃ k m, Rounded n d k m ∧ roundMagnitude n d = min 0x7F80_0000 (k * 2 ^ 23 + m) := by
  refine ⟨Nat.log2 (n / d) - 23, _, ⟨divNearestEven_nearest n (by positivity), ?normal, ?below⟩, rfl⟩
  case normal =>
    by_cases small : Nat.log2 (n / d) ≤ 23
    · exact .inl (by omega)
    · have ne : n / d ≠ 0 := by rintro zero; rw [zero] at small; exact small (by decide)
      have := (Nat.le_div_iff_mul_le pos).mp (Nat.log2_self_le ne)
      right
      calc 2 ^ 23 * (d * 2 ^ (Nat.log2 (n / d) - 23)) = 2 ^ (23 + (Nat.log2 (n / d) - 23)) * d := by ring
        _ = 2 ^ Nat.log2 (n / d) * d := by congr 2; omega
        _ ≤ n := this
  case below =>
    have := (Nat.div_lt_iff_lt_mul pos).mp (Nat.lt_log2_self (n := n / d))
    calc n < 2 ^ (Nat.log2 (n / d) + 1) * d := this
      _ ≤ 2 ^ (24 + (Nat.log2 (n / d) - 23)) * d := Nat.mul_le_mul_right d (Nat.pow_le_pow_right two_pos (by omega))
      _ = 2 ^ 24 * (d * 2 ^ (Nat.log2 (n / d) - 23)) := by ring

namespace Rounded

variable {n d k m : Nat} (h : Rounded n d k m)
include h

theorem significand_le : m ≤ 2 ^ 24 := by
  have near := h.nearest.near
  have below := h.below
  generalize d * 2 ^ k = D at *
  by_contra! large
  have : (2 ^ 24 + 1) * D ≤ m * D := Nat.mul_le_mul_right D large
  omega

theorem significand_normal : k = 0 ∨ 2 ^ 23 ≤ m := by
  obtain zero | above := h.normal
  · exact .inl zero
  have near := h.nearest.near
  have below := h.below
  generalize d * 2 ^ k = D at *
  right
  by_contra! small
  have : m * D ≤ (2 ^ 23 - 1) * D := Nat.mul_le_mul_right D (by omega)
  omega

theorem value : codeValue (k * 2 ^ 23 + m) = m * 2 ^ k := codeValue_of_significand h.significand_normal h.significand_le

/-- Among the numbers that a value can be, none is nearer than `m` spacings. -/
theorem closest {v : Int} (spaced : v < 2 ^ (23 + k) ∨ 2 ^ k ∣ v) :
    (((m * 2 ^ k : Nat) : Int) * d - n).natAbs ≤ (v * d - n).natAbs ∧
    ((((m * 2 ^ k : Nat) : Int) * d - n).natAbs = (v * d - n).natAbs → v ≠ (m * 2 ^ k : Nat) → m % 2 = 0) := by
  have value_eq : ((m * 2 ^ k : Nat) : Int) * d = (m * (d * 2 ^ k) : Nat) := by push_cast; ring
  rw [value_eq]
  have multiple (j : Int) : j * 2 ^ k * d = j * (d * 2 ^ k : Nat) := by push_cast; ring
  by_cases divides : (2 : Int) ^ k ∣ v
  · obtain ⟨j, rfl⟩ := divides
    rw [Int.mul_comm _ j, multiple]
    refine ⟨(h.nearest.closest j).1, fun equal ne => (h.nearest.closest j).2 equal fun same => ne ?_⟩
    rw [same]; push_cast; rfl
  · have small := spaced.resolve_right divides
    have above := h.normal.resolve_left fun zero => divides (by simp [zero])
    obtain ⟨nearer, -⟩ := h.nearest.closest (2 ^ 23)
    have pos : 0 < d := Nat.pos_of_ne_zero fun zero => by simpa [zero] using h.below
    have : v * d < 2 ^ (23 + k) * d := Int.mul_lt_mul_of_pos_right small (by omega)
    rw [pow_add, multiple] at this
    exact ⟨by omega, fun equal => by omega⟩

/-- The code reaches that of `2 ^ (e + 25)` from halfway between it and the value before it on: the halfway point is a tie with the
odd significand `2 ^ 24 - 1`. -/
theorem carry_iff (e : Nat) : (e + 3) * 2 ^ 23 ≤ k * 2 ^ 23 + m ↔ (2 ^ 25 - 1) * (d * 2 ^ e) ≤ n := by
  obtain ⟨near, even_of_tie⟩ := h.nearest
  have normal := h.normal
  have below := h.below
  have le := h.significand_le
  have significand_normal := h.significand_normal
  obtain small | rfl | large := lt_trichotomy k (e + 1)
  · have : d * 2 ^ k ≤ d * 2 ^ e := Nat.mul_le_mul_left d (Nat.pow_le_pow_right two_pos (by omega))
    generalize d * 2 ^ k = D at *
    generalize d * 2 ^ e = U at *
    omega
  · rw [show d * 2 ^ (e + 1) = 2 * (d * 2 ^ e) by ring] at *
    generalize d * 2 ^ e = U at *
    obtain lt | rfl := Nat.lt_or_eq_of_le le
    · refine iff_of_false (by omega) fun halfway => ?_
      have : m * (2 * U) ≤ (2 ^ 24 - 1) * (2 * U) := Nat.mul_le_mul_right _ (by omega)
      have even : m % 2 = 0 := even_of_tie (by omega)
      have : m * (2 * U) ≤ (2 ^ 24 - 2) * (2 * U) := Nat.mul_le_mul_right _ (by omega)
      omega
    · omega
  · have : d * 2 ^ (e + 2) ≤ d * 2 ^ k := Nat.mul_le_mul_left d (Nat.pow_le_pow_right two_pos (by omega))
    rw [show d * 2 ^ (e + 2) = 4 * (d * 2 ^ e) by ring] at this
    generalize d * 2 ^ k = D at *
    generalize d * 2 ^ e = U at *
    omega

end Rounded

/-! ## Patterns from `roundTo` -/

section RoundTo

variable (neg : Bool) (n d : Nat)

theorem roundMagnitude_le : roundMagnitude n d ≤ 0x7F80_0000 := Nat.min_le_left _ _

@[simp] theorem code_roundTo : code (roundTo neg n d) = roundMagnitude n d := by
  have := roundMagnitude_le n d
  rw [roundTo, code_withSign, BitVec.toNat_ofNat]
  omega

@[simp] theorem signBit_roundTo : signBit (roundTo neg n d) = neg := signBit_withSign neg _

theorem isNaN_roundTo : isNaN (roundTo neg n d) = false := by
  rw [isNaN_eq_false_iff, code_roundTo]
  exact roundMagnitude_le n d

end RoundTo

theorem isInf_roundTo_iff (neg : Bool) (n : Nat) {d : Nat} (pos : 0 < d) :
    isInf (roundTo neg n d) = true ↔ (2 ^ 25 - 1) * 2 ^ 252 * d ≤ n := by
  obtain ⟨k, m, rounded, code_eq⟩ := roundMagnitude_rounded n pos
  have carry := rounded.carry_iff 252
  rw [Nat.mul_comm d, ← Nat.mul_assoc] at carry
  rw [isInf_iff, code_roundTo, code_eq, ← carry]
  omega

/-! ### Signed values -/

theorem signed_mul (s : Bool) (x y : Int) : signed s x * y = signed s (x * y) := by cases s <;> simp

theorem mul_signed (s : Bool) (x y : Int) : x * signed s y = signed s (x * y) := by
  rw [mul_comm, signed_mul, mul_comm]

theorem signed_signed (s t : Bool) (x : Int) : signed s (signed t x) = signed (s != t) x := by
  cases s <;> cases t <;> simp

@[simp] theorem signed_signed_same (s : Bool) (x : Int) : signed s (signed s x) = x := by rw [signed_signed, bne_self_eq_false]; rfl

theorem signed_injective (s : Bool) : Function.Injective (signed s) :=
  Function.LeftInverse.injective (signed_signed_same s)

theorem signed_mul_signed (s t : Bool) (x y : Int) : signed s x * signed t y = signed (s != t) (x * y) := by
  rw [signed_mul, mul_signed, signed_signed]

theorem signed_sub (s : Bool) (x y : Int) : signed s (x - y) = signed s x - signed s y := by
  cases s <;> simp [neg_add_eq_sub]

theorem natAbs_signed (s : Bool) (x : Int) : (signed s x).natAbs = x.natAbs := by cases s <;> simp

theorem signed_natCast_neg_iff (s : Bool) {n : Nat} (pos : 0 < n) : signed s n < 0 ↔ s = true := by
  cases s <;> simp [pos]

theorem signed_decide_natAbs (n : Int) : signed (decide (n < 0)) n.natAbs = n := by
  by_cases negative : n < 0
  · rw [decide_eq_true negative, signed_true]; omega
  · rw [decide_eq_false negative, signed_false]; omega

/-- A distance is the same after the signs of the numerator and the denominator are taken off. -/
theorem distance_signed (s t : Bool) (n d : Nat) (v : Int) :
    (v * signed t d - signed s n).natAbs = (signed (s != t) v * d - n).natAbs := by
  rw [← natAbs_signed s, signed_sub, signed_signed_same, mul_signed, signed_signed, signed_mul]

/-- Every value, whatever sign is put before it, is one of those among which `Rounded.closest` is the nearest. -/
theorem exactValue_spacing (k : Nat) (neg : Bool) (w : Word) :
    signed neg (exactValue w) < 2 ^ (23 + k) ∨ 2 ^ k ∣ signed neg (exactValue w) := by
  rw [exactValue_eq, signed_signed]
  cases neg != signBit w with
  | false =>
    rw [signed_false]
    exact_mod_cast codeValue_spacing k (code w)
  | true =>
    have : (0 : Int) < 2 ^ (23 + k) := by positivity
    left
    rw [signed_true]
    omega

/-- Every operation rounds correctly that gives `roundTo` the sign and the magnitudes of a quotient. -/
theorem roundTo_roundsTo (s t : Bool) (n : Nat) {d : Nat} (pos : 0 < d) :
    RoundsTo (signed s n) (signed t d) (roundTo (s != t) n d) := by
  have number := isNaN_roundTo (s != t) n d
  refine ⟨number, ?overflow, fun finite => ⟨⟨number, finite⟩, fun c _ => ?nearest⟩, fun nonzero => ?sign⟩
  case overflow =>
    rw [isInf_roundTo_iff _ n pos, natAbs_signed, natAbs_signed, Int.natAbs_natCast, Int.natAbs_natCast]
  case nearest =>
    obtain ⟨k, m, rounded, code_eq⟩ := roundMagnitude_rounded n pos
    have := roundMagnitude_le n d
    have code_lt := (isFinite_iff _).mp ⟨number, finite⟩
    rw [code_roundTo, code_eq] at code_lt
    have code_eq : code (roundTo (s != t) n d) = k * 2 ^ 23 + m := by rw [code_roundTo, code_eq]; omega
    have value : signed (s != t) (exactValue (roundTo (s != t) n d)) = (m * 2 ^ k : Nat) := by
      rw [exactValue_eq, signBit_roundTo, signed_signed_same, code_eq, rounded.value]
    have closest := rounded.closest (exactValue_spacing k (s != t) c)
    rw [distance_signed, distance_signed, value]
    refine ⟨closest.1, fun equal ne => ?_⟩
    have even := closest.2 equal fun same => ne (signed_injective (s != t) (same.trans value.symm))
    rw [code_getLsbD_zero, code_eq]
    exact decide_eq_false (by omega)
  case sign =>
    have : n ≠ 0 := by rintro rfl; exact nonzero (signed_zero s)
    rw [signed_mul_signed, signBit_roundTo, ← Nat.cast_mul, signed_natCast_neg_iff _ (by positivity)]

end Sys2Proof.Proofs

/-! SUPPORT and PROOFS. The four operations (00_scope.md R11): what each answers, by the classes of its operands, and the statements about
their values. -/

namespace Sys2Proof.Proofs

open Sys2Proof Sys2Proof.Machine Sys2Proof.Claims

/-! ## The sum -/

section Sum

variable {a b : Word}

theorem fadd32_of_nan (h : isNaN a = true ∨ isNaN b = true) : fadd32 a b = canonicalNaN :=
  if_pos (Bool.or_eq_true _ _ ▸ h)

theorem fadd32_of_unlike_infs (ha : isInf a = true) (hb : isInf b = true) (unlike : signBit b ≠ signBit a) :
    fadd32 a b = canonicalNaN := by
  simp [fadd32, isNaN_of_isInf, ha, hb, unlike.symm]

theorem fadd32_of_inf_left (ha : isInf a = true) (hb : isNaN b = false) (like : ¬ (isInf b = true ∧ signBit b ≠ signBit a)) :
    fadd32 a b = a := by
  have like : (isInf b && signBit a != signBit b) = false := by
    rw [Bool.eq_false_iff, Ne, Bool.and_eq_true, bne_iff_ne, ne_comm]
    exact like
  simp [fadd32, isNaN_of_isInf, ha, hb, like]

theorem fadd32_of_inf_right (ha : IsFinite a) (hb : isInf b = true) : fadd32 a b = b := by
  simp [fadd32, ha.1, ha.2, isNaN_of_isInf hb, hb]

/-- The sign of a sum whose exact value is `v`. -/
def sumSign (a b : Word) (v : Int) : Bool := if v = 0 then signBit a && signBit b else decide (v < 0)

theorem signed_sumSign (a b : Word) (v : Int) : signed (sumSign a b v) v.natAbs = v := by
  rw [sumSign]
  split
  case isTrue zero => simp [zero]
  case isFalse nonzero => exact signed_decide_natAbs v

theorem fadd32_of_finite (ha : IsFinite a) (hb : IsFinite b) :
    fadd32 a b = roundTo (sumSign a b (exactValue a + exactValue b)) (exactValue a + exactValue b).natAbs 1 := by
  simp [fadd32, sumSign, ha.1, ha.2, hb.1, hb.2]

theorem fadd32_roundsTo (ha : IsFinite a) (hb : IsFinite b) : RoundsTo (exactValue a + exactValue b) 1 (fadd32 a b) := by
  have rounds := roundTo_roundsTo (sumSign a b (exactValue a + exactValue b)) false (exactValue a + exactValue b).natAbs one_pos
  rwa [signed_sumSign, signed_false, Bool.bne_false, ← fadd32_of_finite ha hb] at rounds

theorem fadd32_of_sum_zero (ha : IsFinite a) (hb : IsFinite b) (zero : exactValue a + exactValue b = 0) :
    fadd32 a b = if signBit a = true ∧ signBit b = true then 0x8000_0000 else 0 := by
  rw [fadd32_of_finite ha hb, zero, sumSign, if_pos rfl]
  cases signBit a <;> cases signBit b <;> rfl

end Sum

/-- Settles O42: the difference is the sum with the second operand negated. -/
theorem addRoundsToNearestEven : Obligations.AddRoundsToNearestEven := by
  intro a b
  refine ⟨fun ha hb => ?finite, fun ha hb => ?infLeft, fun ha hb => ?infRight⟩
  case finite =>
    have hb' : IsFinite (negated b) := isFinite_negated.mpr hb
    have difference : exactValue a - exactValue b = exactValue a + exactValue (negated b) := by rw [exactValue_negated]; rfl
    rw [difference]
    refine ⟨fadd32_roundsTo ha hb, fadd32_roundsTo ha hb', fadd32_of_sum_zero ha hb, fun zero => ?_⟩
    simpa [fsub32] using fadd32_of_sum_zero ha hb' zero
  case infLeft =>
    refine ⟨fadd32_of_inf_left ha hb, fun unlike => fadd32_of_inf_left ha (by rwa [isNaN_negated]) ?_⟩
    rwa [isInf_negated, signBit_negated, ne_eq, Bool.not_not_eq]
  case infRight =>
    exact ⟨fadd32_of_inf_right ha hb, fadd32_of_inf_right ha (by rwa [isInf_negated])⟩

/-! ## The product and the quotient -/

/-- The operands whose product is NaN. -/
def ProductInvalid (a b : Word) : Prop :=
  isNaN a = true ∨ isNaN b = true ∨ (isInf a = true ∧ isZero b = true) ∨ (isZero a = true ∧ isInf b = true)

/-- The operands whose quotient is NaN. -/
def QuotientInvalid (a b : Word) : Prop :=
  isNaN a = true ∨ isNaN b = true ∨ (isInf a = true ∧ isInf b = true) ∨ (isZero a = true ∧ isZero b = true)

theorem fmul32_cases (a b : Word) :
    (ProductInvalid a b ∧ fmul32 a b = canonicalNaN) ∨
    (¬ ProductInvalid a b ∧ (isInf a = true ∨ isInf b = true) ∧ fmul32 a b = infinity (signBit a != signBit b)) ∨
    (IsFinite a ∧ IsFinite b ∧ fmul32 a b = roundTo (signBit a != signBit b) (magnitude a * magnitude b) unitsPerOne) := by
  have inf_or_zero_a := not_isInf_and_isZero a
  have inf_or_zero_b := not_isInf_and_isZero b
  simp only [fmul32, ProductInvalid, Bool.or_eq_true]
  split
  case isTrue nan => exact .inl ⟨by tauto, rfl⟩
  case isFalse number =>
  split
  case isTrue inf =>
    split
    case isTrue zero => exact .inl ⟨by tauto, rfl⟩
    case isFalse nonzero => exact .inr (.inl ⟨by tauto, inf, rfl⟩)
  case isFalse finite =>
    rw [not_or] at number finite
    exact .inr (.inr ⟨isFinite_of_not number.1 finite.1, isFinite_of_not number.2 finite.2, rfl⟩)

theorem fdiv32_cases (a b : Word) :
    (QuotientInvalid a b ∧ fdiv32 a b = canonicalNaN) ∨
    (¬ QuotientInvalid a b ∧ isInf b = false ∧ (isInf a = true ∨ isZero b = true) ∧
      fdiv32 a b = infinity (signBit a != signBit b)) ∨
    (¬ QuotientInvalid a b ∧ isInf a = false ∧ isInf b = true ∧ fdiv32 a b = signedZero (signBit a != signBit b)) ∨
    (IsFinite a ∧ IsFinite b ∧ isZero b = false ∧
      fdiv32 a b = roundTo (signBit a != signBit b) (magnitude a * unitsPerOne) (magnitude b)) := by
  have inf_or_zero_a := not_isInf_and_isZero a
  have inf_or_zero_b := not_isInf_and_isZero b
  simp only [fdiv32, QuotientInvalid, Bool.or_eq_true]
  split
  case isTrue nan => exact .inl ⟨by tauto, rfl⟩
  case isFalse number =>
  split
  case isTrue infLeft =>
    split
    case isTrue infRight => exact .inl ⟨by tauto, rfl⟩
    case isFalse finiteRight => exact .inr (.inl ⟨by tauto, Bool.eq_false_iff.mpr finiteRight, .inl infLeft, rfl⟩)
  case isFalse finiteLeft =>
  split
  case isTrue infRight => exact .inr (.inr (.inl ⟨by tauto, Bool.eq_false_iff.mpr finiteLeft, infRight, rfl⟩))
  case isFalse finiteRight =>
  split
  case isTrue zeroRight =>
    split
    case isTrue zeroLeft => exact .inl ⟨by tauto, rfl⟩
    case isFalse nonzeroLeft => exact .inr (.inl ⟨by tauto, Bool.eq_false_iff.mpr finiteRight, .inr zeroRight, rfl⟩)
  case isFalse nonzeroRight =>
    rw [not_or] at number
    exact .inr (.inr (.inr ⟨isFinite_of_not number.1 finiteLeft, isFinite_of_not number.2 finiteRight,
      Bool.eq_false_iff.mpr nonzeroRight, rfl⟩))

section Finite

variable {a b : Word} (ha : IsFinite a) (hb : IsFinite b)
include ha hb

theorem fmul32_of_finite : fmul32 a b = roundTo (signBit a != signBit b) (magnitude a * magnitude b) unitsPerOne := by
  simp [fmul32, ha.1, ha.2, hb.1, hb.2]

theorem fdiv32_of_finite (nonzero : isZero b = false) :
    fdiv32 a b = roundTo (signBit a != signBit b) (magnitude a * unitsPerOne) (magnitude b) := by
  simp [fdiv32, ha.1, ha.2, hb.1, hb.2, nonzero]

end Finite

/-! ### Infinities and zeros of a sign -/

section SignedResults

variable (neg : Bool)

theorem signBit_infinity : signBit (infinity neg) = neg := signBit_withSign neg _

theorem isInf_infinity : isInf (infinity neg) = true := (isInf_iff _).mpr (code_withSign neg _)

theorem isNaN_infinity : isNaN (infinity neg) = false := isNaN_of_isInf (isInf_infinity neg)

theorem signBit_signedZero : signBit (signedZero neg) = neg := signBit_withSign neg _

theorem isZero_signedZero : isZero (signedZero neg) = true := (isZero_iff _).mpr (code_withSign neg _)

theorem isNaN_signedZero : isNaN (signedZero neg) = false := (isFinite_of_isZero (isZero_signedZero neg)).1

end SignedResults

theorem isNaN_canonicalNaN : isNaN canonicalNaN = true := rfl

/-! ### Exact values -/

theorem exactValue_eq_signed_magnitude (w : Word) : exactValue w = signed (signBit w) (magnitude w) := rfl

theorem exactValue_mul (a b : Word) :
    exactValue a * exactValue b = signed (signBit a != signBit b) (magnitude a * magnitude b : Nat) := by
  rw [exactValue_eq_signed_magnitude, exactValue_eq_signed_magnitude, signed_mul_signed, Nat.cast_mul]

theorem magnitude_pos {w : Word} (nonzero : isZero w = false) : 0 < magnitude w := by
  rw [← Bool.not_eq_true, isZero_iff] at nonzero
  rw [magnitude_eq]
  exact codeValue_strictMono (Nat.pos_of_ne_zero nonzero)

theorem unitsPerOne_cast : (unitsPerOne : Int) = 2 ^ 149 := by rw [unitsPerOne]; push_cast

theorem unitsPerOne_pos : 0 < unitsPerOne := by rw [unitsPerOne]; positivity

theorem fmul32_roundsTo {a b : Word} (ha : IsFinite a) (hb : IsFinite b) :
    RoundsTo (exactValue a * exactValue b) (2 ^ 149) (fmul32 a b) := by
  rw [exactValue_mul, fmul32_of_finite ha hb, ← unitsPerOne_cast]
  simpa using roundTo_roundsTo (signBit a != signBit b) false (magnitude a * magnitude b) unitsPerOne_pos

theorem fdiv32_roundsTo {a b : Word} (ha : IsFinite a) (hb : IsFinite b) (nonzero : isZero b = false) :
    RoundsTo (exactValue a * 2 ^ 149) (exactValue b) (fdiv32 a b) := by
  have numerator : exactValue a * 2 ^ 149 = signed (signBit a) (magnitude a * unitsPerOne : Nat) := by
    rw [exactValue_eq_signed_magnitude, signed_mul, Nat.cast_mul, unitsPerOne_cast]
  rw [numerator, fdiv32_of_finite ha hb nonzero]
  exact roundTo_roundsTo (signBit a) (signBit b) (magnitude a * unitsPerOne) (magnitude_pos nonzero)

theorem fmul32_sign {a b : Word} (number : isNaN (fmul32 a b) = false) :
    signBit (fmul32 a b) = (signBit a != signBit b) ∧ (isInf a = true ∨ isInf b = true → isInf (fmul32 a b) = true) := by
  obtain ⟨-, nan⟩ | ⟨-, -, infinite⟩ | ⟨ha, hb, rounded⟩ := fmul32_cases a b
  · rw [nan] at number
    exact absurd number (by decide)
  · rw [infinite]
    exact ⟨signBit_infinity _, fun _ => isInf_infinity _⟩
  · rw [rounded]
    exact ⟨signBit_roundTo _ _ _, fun inf => absurd inf (not_or.mpr ⟨not_isInf_of_isFinite ha, not_isInf_of_isFinite hb⟩)⟩

theorem fdiv32_sign {a b : Word} (number : isNaN (fdiv32 a b) = false) :
    signBit (fdiv32 a b) = (signBit a != signBit b) ∧ (isInf a = true → isInf (fdiv32 a b) = true) ∧
      (isInf b = true → isZero (fdiv32 a b) = true) := by
  obtain ⟨-, nan⟩ | ⟨-, hb, -, infinite⟩ | ⟨-, ha, -, zero⟩ | ⟨ha, hb, -, rounded⟩ := fdiv32_cases a b
  · rw [nan] at number
    exact absurd number (by decide)
  · rw [infinite]
    exact ⟨signBit_infinity _, fun _ => isInf_infinity _, fun inf => absurd (hb.symm.trans inf) (by decide)⟩
  · rw [zero]
    exact ⟨signBit_signedZero _, fun inf => absurd (ha.symm.trans inf) (by decide), fun _ => isZero_signedZero _⟩
  · rw [rounded]
    exact ⟨signBit_roundTo _ _ _, fun inf => absurd inf (not_isInf_of_isFinite ha),
      fun inf => absurd inf (not_isInf_of_isFinite hb)⟩

/-- Settles O43: correct rounding for finite operands; the signs and the infinite operands by the cases of each operation. -/
theorem multiplyDivideRoundToNearestEven : Obligations.MultiplyDivideRoundToNearestEven :=
  fun _ _ => ⟨fun ha hb => ⟨fmul32_roundsTo ha hb, fdiv32_roundsTo ha hb⟩, fmul32_sign, fdiv32_sign⟩

/-! ## NaN results (42_float.md R232) -/

/-- The result is the canonical NaN when the operands are invalid, and no NaN otherwise. -/
def NaNWhen (invalid : Prop) (r : Word) : Prop := (invalid ∧ r = canonicalNaN) ∨ (¬ invalid ∧ isNaN r = false)

section NaNWhen

variable {invalid : Prop} {r : Word} (h : NaNWhen invalid r)
include h

theorem NaNWhen.canonical : isNaN r = true ↔ r = 0x7FC0_0000 := by
  obtain ⟨-, rfl⟩ | ⟨-, number⟩ := h
  · exact iff_of_true isNaN_canonicalNaN rfl
  · exact iff_of_false (by simp [number]) (by rintro rfl; exact absurd number (by decide))

theorem NaNWhen.exactly : isNaN r = true ↔ invalid := by
  obtain ⟨holds, rfl⟩ | ⟨fails, number⟩ := h
  · exact iff_of_true isNaN_canonicalNaN holds
  · exact iff_of_false (by simp [number]) fails

end NaNWhen

/-- The operands whose sum is NaN. -/
def SumInvalid (a b : Word) : Prop :=
  isNaN a = true ∨ isNaN b = true ∨ (isInf a = true ∧ isInf b = true ∧ signBit a ≠ signBit b)

theorem fadd32_nanWhen (a b : Word) : NaNWhen (SumInvalid a b) (fadd32 a b) := by
  by_cases nan : isNaN a = true ∨ isNaN b = true
  · exact .inl ⟨or_assoc.mp (.inl nan), fadd32_of_nan nan⟩
  obtain ⟨na, nb⟩ := not_or.mp nan
  rw [Bool.not_eq_true] at na nb
  by_cases ia : isInf a = true
  · by_cases unlike : isInf b = true ∧ signBit b ≠ signBit a
    · exact .inl ⟨.inr (.inr ⟨ia, unlike.1, unlike.2.symm⟩), fadd32_of_unlike_infs ia unlike.1 unlike.2⟩
    · exact .inr ⟨by simp [SumInvalid, na, nb, ia]; tauto, by rwa [fadd32_of_inf_left ia nb unlike]⟩
  · have fa := isFinite_of_not (by simp [na]) ia
    refine .inr ⟨by simp [SumInvalid, na, nb, ia], ?_⟩
    by_cases ib : isInf b = true
    · rwa [fadd32_of_inf_right fa ib]
    · rw [fadd32_of_finite fa (isFinite_of_not (by simp [nb]) ib)]
      exact isNaN_roundTo _ _ _

theorem fmul32_nanWhen (a b : Word) : NaNWhen (ProductInvalid a b) (fmul32 a b) := by
  obtain nan | ⟨valid, -, infinite⟩ | ⟨ha, hb, rounded⟩ := fmul32_cases a b
  · exact .inl nan
  · exact .inr ⟨valid, by rw [infinite, isNaN_infinity]⟩
  · exact .inr ⟨by simp [ProductInvalid, ha.1, ha.2, hb.1, hb.2], by rw [rounded, isNaN_roundTo]⟩

theorem fdiv32_nanWhen (a b : Word) : NaNWhen (QuotientInvalid a b) (fdiv32 a b) := by
  obtain nan | ⟨valid, -, -, infinite⟩ | ⟨valid, -, -, zero⟩ | ⟨ha, hb, nonzero, rounded⟩ := fdiv32_cases a b
  · exact .inl nan
  · exact .inr ⟨valid, by rw [infinite, isNaN_infinity]⟩
  · exact .inr ⟨valid, by rw [zero, isNaN_signedZero]⟩
  · exact .inr ⟨by simp [QuotientInvalid, ha.1, ha.2, hb.1, nonzero], by rw [rounded, isNaN_roundTo]⟩

theorem sumInvalid_negated (a b : Word) :
    SumInvalid a (negated b) ↔
      isNaN a = true ∨ isNaN b = true ∨ (isInf a = true ∧ isInf b = true ∧ signBit a = signBit b) := by
  simp [SumInvalid, isNaN_negated, isInf_negated]

/-- Settles O44: each operation gives the canonical NaN for its invalid operands; fsub is fadd of the negated operand. -/
theorem naNResultsAreCanonical : Obligations.NaNResultsAreCanonical := by
  intro a b
  have sum := fadd32_nanWhen a b
  have difference := fadd32_nanWhen a (negated b)
  have product := fmul32_nanWhen a b
  have quotient := fdiv32_nanWhen a b
  exact ⟨sum.canonical, difference.canonical, product.canonical, quotient.canonical, sum.exactly,
    difference.exactly.trans (sumInvalid_negated a b), product.exactly, quotient.exactly⟩

end Sys2Proof.Proofs

/-! SUPPORT and PROOFS. The floating-point instructions (42_float.md R233-R240): the order, the flags, the conversions, and the statements
about the instructions, each a value of the layer above within its frame. -/

namespace Sys2Proof.Proofs

open Sys2Proof Sys2Proof.Machine Sys2Proof.Claims

/-! ## The order -/

/-- The magnitude that the model gives to an infinity. -/
def infiniteMagnitude : Nat := codeValue 0x7F80_0000

theorem infiniteMagnitude_pos : 0 < infiniteMagnitude := codeValue_strictMono (by decide : 0 < 0x7F80_0000)

theorem exactValue_of_isInf {w : Word} (h : isInf w = true) : exactValue w = signed (signBit w) infiniteMagnitude := by
  rw [exactValue_eq, (isInf_iff w).mp h, infiniteMagnitude]

theorem exactValue_natAbs_lt {w : Word} (h : IsFinite w) : (exactValue w).natAbs < infiniteMagnitude := by
  rw [exactValue_eq, natAbs_signed, Int.natAbs_natCast]
  exact codeValue_strictMono ((isFinite_iff w).mp h)

/-- The exact values order the infinities too, since an infinity reads as a value beyond every finite one. -/
theorem exactValue_lt_iff {a b : Word} (ha : isNaN a = false) (hb : isNaN b = false) :
    exactValue a < exactValue b ↔ IeeeLess a b := by
  have pos := infiniteMagnitude_pos
  cases ia : isInf a with
  | false =>
    have bound_a := exactValue_natAbs_lt ⟨ha, ia⟩
    cases ib : isInf b with
    | false => simp [IeeeLess, ia, ib]
    | true =>
      rw [exactValue_of_isInf ib]
      cases sb : signBit b with
      | false => exact iff_of_true (by rw [signed_false]; omega) (by simp [IeeeLess, ia, ib, sb])
      | true => exact iff_of_false (by rw [signed_true]; omega) (by simp [IeeeLess, ia, ib, sb])
  | true =>
    rw [exactValue_of_isInf ia]
    cases ib : isInf b with
    | false =>
      have bound_b := exactValue_natAbs_lt ⟨hb, ib⟩
      cases sa : signBit a with
      | false => exact iff_of_false (by rw [signed_false]; omega) (by simp [IeeeLess, ia, ib, sa])
      | true => exact iff_of_true (by rw [signed_true]; omega) (by simp [IeeeLess, ia, ib, sa])
    | true =>
      rw [exactValue_of_isInf ib]
      cases sa : signBit a with
      | false => exact iff_of_false (by cases signBit b <;> simp) (by simp [IeeeLess, ia, ib, sa])
      | true => cases sb : signBit b with
        | false => exact iff_of_true (by simp; omega) (by simp [IeeeLess, ia, ib, sa, sb])
        | true => exact iff_of_false (by simp) (by simp [IeeeLess, ia, ib, sa, sb])

theorem floatRelation_cases (a b : Word) :
    (floatRelation a b = .FUN ∧ (isNaN a = true ∨ isNaN b = true)) ∨
    ((isNaN a = false ∧ isNaN b = false) ∧
      ((floatRelation a b = .FLT ∧ IeeeLess a b ∧ ¬ IeeeLess b a) ∨
       (floatRelation a b = .FGT ∧ ¬ IeeeLess a b ∧ IeeeLess b a) ∨
       (floatRelation a b = .FEQ ∧ ¬ IeeeLess a b ∧ ¬ IeeeLess b a))) := by
  by_cases nan : isNaN a = true ∨ isNaN b = true
  · exact .inl ⟨if_pos (Bool.or_eq_true _ _ ▸ nan), nan⟩
  obtain ⟨na, nb⟩ := not_or.mp nan
  rw [Bool.not_eq_true] at na nb
  refine .inr ⟨⟨na, nb⟩, ?_⟩
  simp only [floatRelation, na, nb, Bool.or_false, Bool.false_eq_true, if_false, fless, decide_eq_true_eq,
    ← exactValue_lt_iff na nb, ← exactValue_lt_iff nb na]
  obtain lt | eq | gt := lt_trichotomy (exactValue a) (exactValue b)
  · exact .inl ⟨if_pos lt, lt, lt.asymm⟩
  · exact .inr (.inr ⟨by simp [eq], eq.not_lt, eq.not_gt⟩)
  · exact .inr (.inl ⟨by simp [gt, gt.asymm], gt.asymm, gt⟩)

/-- Each flag of the field, by the relation that it stands for. -/
structure RelationBit (a b : Word) (bit : Nat) : Prop where
  unordered : bit = 7 ↔ isNaN a = true ∨ isNaN b = true
  less : bit = 5 ↔ isNaN a = false ∧ isNaN b = false ∧ IeeeLess a b
  greater : bit = 6 ↔ isNaN a = false ∧ isNaN b = false ∧ IeeeLess b a
  equal : bit = 4 ↔ isNaN a = false ∧ isNaN b = false ∧ ¬ IeeeLess a b ∧ ¬ IeeeLess b a
  in_field : 4 ≤ bit ∧ bit < 8

theorem floatRelation_bit (a b : Word) : RelationBit a b (floatRelation a b).bit := by
  obtain ⟨relation, nan⟩ | ⟨⟨na, nb⟩, ⟨relation, lt, ngt⟩ | ⟨relation, nlt, gt⟩ | ⟨relation, nlt, ngt⟩⟩ :=
    floatRelation_cases a b
  · rw [relation]
    have unordered : ¬ (isNaN a = false ∧ isNaN b = false) := fun ⟨na, nb⟩ => by simp [na, nb] at nan
    exact ⟨by simp [Flag.bit, nan], by simp [Flag.bit]; tauto, by simp [Flag.bit]; tauto, by simp [Flag.bit]; tauto, by decide⟩
  · rw [relation]
    constructor <;> simp [Flag.bit, na, nb, lt, ngt]
  · rw [relation]
    constructor <;> simp [Flag.bit, na, nb, nlt, gt]
  · rw [relation]
    constructor <;> simp [Flag.bit, na, nb, nlt, ngt]

/-! ## The FP-compare field -/

theorem floatCompareField_getLsbD (k : Nat) : floatCompareField.getLsbD k = decide (4 ≤ k ∧ k < 8) := by
  obtain low | high := Nat.lt_or_ge k 8
  · revert low
    revert k
    decide
  · rw [floatCompareField_getLsbD_high k high, decide_eq_false (by omega)]

section FloatCompare

variable (s : State) (f : Flag) {k : Nat}

theorem getLsbD_setFloatCompare_field (hk : 4 ≤ k ∧ k < 8) : (s.setFloatCompare f).cr0.getLsbD k = true ↔ f.bit = k := by
  have in_field : floatCompareField.getLsbD k = true := by rw [floatCompareField_getLsbD, decide_eq_true hk]
  rw [← flag_mask_getLsbD]
  simp [in_field]

/-- Exactly one flag of the field is set. -/
theorem filter_setFloatCompare (hf : 4 ≤ f.bit ∧ f.bit < 8) :
    [4, 5, 6, 7].filter (s.setFloatCompare f).cr0.getLsbD = [f.bit] := by
  have same : ∀ k ∈ [4, 5, 6, 7], (s.setFloatCompare f).cr0.getLsbD k = decide (f.bit = k) := fun k hk => by
    rw [Bool.eq_iff_iff, decide_eq_true_iff, getLsbD_setFloatCompare_field s f (by simp at hk; omega)]
  rw [List.filter_congr same]
  generalize f.bit = bit at hf
  obtain ⟨low, high⟩ := hf
  interval_cases bit <;> rfl

theorem getLsbD_setFloatCompare_other (hf : 4 ≤ f.bit ∧ f.bit < 8) (hk : k < 4 ∨ 8 ≤ k) :
    (s.setFloatCompare f).cr0.getLsbD k = s.cr0.getLsbD k := by
  rw [setFloatCompare_cr0, getLsbD_or_mask _ (by omega), getLsbD_and_not]
  rw [floatCompareField_getLsbD, decide_eq_false (by omega)]

end FloatCompare

theorem frame_setFloatCompare {s u : State} {rds : List RegIdx} {c p : Word} (h : Frame s u rds c p) (f : Flag) :
    Frame s (u.setFloatCompare f) rds (u.setFloatCompare f).cr0 p :=
  { h with
    cr0 := rfl
    system := { h.system with } }

/-- Settles O39: the relation names one flag of the field. -/
theorem floatCompare : Obligations.FloatCompare := by
  intro rs1 rs2 s a b
  have relation := floatRelation_bit a b
  have field {k : Nat} (hk : 4 ≤ k ∧ k < 8) := getLsbD_setFloatCompare_field s (floatRelation a b) hk
  exact runs_of_exec ((finish_next _ _).mpr rfl)
    ⟨(field (by decide)).trans relation.unordered, (field (by decide)).trans relation.less,
      (field (by decide)).trans relation.greater, (field (by decide)).trans relation.equal,
      congrArg List.length (filter_setFloatCompare s _ relation.in_field),
      fun _ hk => getLsbD_setFloatCompare_other s _ relation.in_field hk,
      frame_advance (frame_setFloatCompare (frame_refl s []) _)⟩

/-! ## Flags -/

section Flags

variable {s u : State} {rds : List RegIdx} {c p : Word} (h : Frame s u rds c p)
include h

theorem frame_setFlagIf {cond : Bool} {holds : Prop} [Decidable holds] {f : Flag} {bit : Word} (same : cond = true ↔ holds)
    (mask : f.mask = bit := by rfl) : Frame s (u.setFlagIf cond f) rds (c ||| if holds then bit else 0) p := by
  subst mask
  by_cases set : holds
  · rw [same.mpr set, if_pos set]
    exact frame_setFlag h f
  · rw [Bool.eq_false_iff.mpr (mt same.mp set), if_neg set]
    simpa using h

/-- R233: overflow and underflow by the classes of the operands and of the result. -/
theorem frame_setRangeFlags (a b r : Word) :
    Frame s (u.setRangeFlags a b r) rds
      (c ||| (if isInf r ∧ ¬ isInf a ∧ ¬ isInf b then 0x0000_0800 else 0)
        ||| (if isZero r ∧ ¬ isZero a ∧ ¬ isZero b then 0x0000_1000 else 0)) p :=
  frame_setFlagIf (frame_setFlagIf h (by simp [ofCond, and_assoc])) (by simp [ufCond, and_assoc])

end Flags

/-- As `runs_writeBack`, for a value that is given. -/
theorem runs_writeBack_value {w : Word} {i : Instr} {s u : State} {rd : RegIdx} {v c : Word} (exec_eq : exec i s = writeBack rd v u)
    (frame : Frame s u [rd] c s.pc) (word : encode i = w := by rfl) (hi : i.wellFormed = true := by rfl) :
    Runs w i s (WritesRd s rd v c) :=
  runs_writeBack (P := (· = v)) frame rfl exec_eq word hi

/-- Settles O40: fadd by the shared flag rule, fsub by its one flag. -/
theorem floatAddSubtract : Obligations.FloatAddSubtract := fun _ _ _ s =>
  ⟨runs_writeBack_value rfl (frame_setRangeFlags (frame_refl s _) _ _ _),
    runs_writeBack_value rfl (frame_setFlagIf (frame_refl s _) .rfl)⟩

theorem infinity_eq (neg : Bool) : infinity neg = if neg then 0xFF80_0000 else 0x7F80_0000 := by cases neg <;> rfl

/-- Settles O41: fmul by the shared flag rule; fdiv by the order in which its meaning checks the operands. -/
theorem floatMultiplyDivide : Obligations.FloatMultiplyDivide := by
  intro rd rs1 rs2 s a b range
  have frame := frame_refl s [rd]
  refine ⟨runs_writeBack_value rfl (frame_setRangeFlags frame _ _ _), ?divide⟩
  split
  case isTrue zero_b =>
    split
    case isTrue zero_a =>
      have flags : s.cr0 ||| 0x0000_0500 = s.cr0 ||| Flag.NV.mask ||| Flag.DZ.mask := by
        rw [BitVec.or_assoc]; rfl
      rw [flags]
      exact runs_writeBack_value ((if_pos zero_b).trans (if_pos zero_a)) (frame_setFlag (frame_setFlag frame .NV) .DZ)
    case isFalse nonzero_a =>
      rw [← infinity_eq]
      exact runs_writeBack_value ((if_pos zero_b).trans (if_neg nonzero_a)) (frame_setFlag frame .DZ)
  case isFalse nonzero_b =>
    exact runs_writeBack_value (if_neg nonzero_b) (frame_setRangeFlags frame _ _ _)

/-! ## Conversions -/

theorem i32ToF32_roundsTo (n : Int) : RoundsTo (n * 2 ^ 149) 1 (i32ToF32 n) := by
  have rounds := roundTo_roundsTo (decide (n < 0)) false (n.natAbs * unitsPerOne) one_pos
  rwa [Nat.cast_mul, ← signed_mul, signed_decide_natAbs, unitsPerOne_cast, signed_false, Bool.bne_false] at rounds

theorem i32ToF32_isFinite {n : Int} (bound : n.natAbs ≤ 2 ^ 31) : IsFinite (i32ToF32 n) := by
  refine ⟨isNaN_roundTo _ _ _, ?_⟩
  rw [i32ToF32, Bool.eq_false_iff, Ne, isInf_roundTo_iff _ _ one_pos, Nat.not_le]
  calc n.natAbs * unitsPerOne ≤ 2 ^ 31 * unitsPerOne := Nat.mul_le_mul_right _ bound
    _ < (2 ^ 25 - 1) * 2 ^ 252 * 1 := by norm_num [unitsPerOne]

/-- Settles O45: rounding, and no integer of 32 bits overflows. -/
theorem integerToFloat : Obligations.IntegerToFloat := by
  intro rd rs1 s
  refine runs_writesRdSuch ⟨i32ToF32_roundsTo _, i32ToF32_isFinite ?bound, ?zero⟩
  case bound =>
    have := BitVec.le_toInt (s.reg rs1)
    have := BitVec.toInt_lt (x := s.reg rs1)
    omega
  case zero =>
    intro zero
    rw [zero]
    rfl

/-- The integer that `int` writes is nearest, and even in a tie. -/
theorem roundTiesEven_nearest (w : Word) :
    2 * (roundTiesEven w * 2 ^ 149 - exactValue w).natAbs ≤ 2 ^ 149 ∧
      (2 * (roundTiesEven w * 2 ^ 149 - exactValue w).natAbs = 2 ^ 149 → roundTiesEven w % 2 = 0) := by
  have nearest := divNearestEven_nearest (magnitude w) unitsPerOne_pos
  have value : roundTiesEven w = signed (signBit w) (divNearestEven (magnitude w) unitsPerOne) := rfl
  have distance : (roundTiesEven w * 2 ^ 149 - exactValue w).natAbs =
      ((divNearestEven (magnitude w) unitsPerOne * unitsPerOne : Nat) - magnitude w : Int).natAbs := by
    rw [value, exactValue_eq_signed_magnitude, signed_mul, ← signed_sub, natAbs_signed, ← unitsPerOne_cast, Nat.cast_mul]
  rw [distance]
  refine ⟨nearest.near, fun tie => ?_⟩
  have even := nearest.even_of_tie tie
  rw [value]
  cases signBit w with
  | false => rw [signed_false]; omega
  | true => rw [signed_true]; omega

/-- Settles O46: the four cases in the order in which the meaning checks them. -/
theorem floatToInteger : Obligations.FloatToInteger := by
  intro rd rs1 s a v
  have frame := frame_refl s [rd]
  by_cases special : isNaN a = true ∨ isInf a = true
  · simp only [if_pos special]
    exact runs_writeBack_value (if_pos (Bool.or_eq_true _ _ ▸ special)) (frame_setFlag frame .NV)
  have general := Bool.or_eq_true (isNaN a) (isInf a) ▸ special
  by_cases above : 2 ^ 31 * 2 ^ 149 ≤ v
  · simp only [if_neg special, if_pos above]
    exact runs_writeBack_value ((if_neg general).trans (if_pos above)) (frame_setFlag frame .OF)
  by_cases below : v < -(2 ^ 31 * 2 ^ 149)
  · simp only [if_neg special, if_neg above, if_pos below]
    exact runs_writeBack_value ((if_neg general).trans ((if_neg above).trans (if_pos below))) (frame_setFlag frame .OF)
  · simp only [if_neg special, if_neg above, if_neg below]
    have written : exec (.int rd rs1) s = writeBack rd (BitVec.ofInt 32 (roundTiesEven a)) s :=
      (if_neg general).trans ((if_neg above).trans (if_neg below))
    obtain ⟨word, t, next, writes⟩ := runs_writeBack_value (w := wordR 0x32 rd rs1 6 0) written frame
    obtain ⟨near, even⟩ := roundTiesEven_nearest a
    exact ⟨word, t, next, roundTiesEven a, near, even, writes⟩

end Sys2Proof.Proofs

/-! SUPPORT and PROOFS. The vector instructions (43_vector.md): quads as functions of the lane number, the bytes of a word, and the
statements about the instructions, each a value within its frame. -/

namespace Sys2Proof.Proofs

open Sys2Proof Sys2Proof.Machine Sys2Proof.Claims

/-! ## Register quads (43_vector.md R261) -/

/-- The quad whose lane k is `value k`. -/
def quadOf (value : RegIdx → Word) : Quad := ⟨value 0, value 1, value 2, value 3⟩

theorem quad_eq_quadOf (s : State) (n : RegIdx) : s.quad n = quadOf (fun k => s.reg (n + k)) := by
  simp [State.quad, quadOf]

theorem map2_quad (f : Word → Word → Word) (s : State) (m n : RegIdx) :
    Quad.map2 f (s.quad m) (s.quad n) = quadOf (fun k => f (s.reg (m + k)) (s.reg (n + k))) := by
  rw [quad_eq_quadOf, quad_eq_quadOf]
  rfl

/-- The lane numbers are 0, 1, 2 and 3. -/
theorem forall_lane_iff {P : RegIdx → Prop} : (∀ k : RegIdx, k.toNat < 4 → P k) ↔ P 0 ∧ P 1 ∧ P 2 ∧ P 3 := by
  refine ⟨fun h => ⟨h 0 (by decide), h 1 (by decide), h 2 (by decide), h 3 (by decide)⟩, ?_⟩
  rintro ⟨h0, h1, h2, h3⟩ k hk
  obtain rfl | rfl | rfl | rfl : k = 0 ∨ k = 1 ∨ k = 2 ∨ k = 3 := by bv_omega
  · exact h0
  · exact h1
  · exact h2
  · exact h3

theorem any_iff_of_lanes {q : Quad} {value : RegIdx → Word} (lanes : q = quadOf value) (p : Word → Bool) :
    q.any p = true ↔ ∃ k : RegIdx, k.toNat < 4 ∧ p (value k) = true := by
  rw [lanes, ← not_iff_not]
  push Not
  rw [forall_lane_iff]
  simp [Quad.any, quadOf, and_assoc]

/-- The four registers of a quad are distinct, so that each reads its own lane. -/
theorem setQuad_quadOf_reg (s : State) (n : RegIdx) (value : RegIdx → Word) :
    ∀ k : RegIdx, k.toNat < 4 → (s.setQuad n (quadOf value)).reg (n + k) = value k := by
  rw [forall_lane_iff]
  simp [setQuad_reg, quadOf]

theorem frame_setQuad {s u : State} {c p : Word} {rd : RegIdx} (h : Frame s u [rd, rd + 1, rd + 2, rd + 3] c p) (q : Quad) :
    Frame s (u.setQuad rd q) [rd, rd + 1, rd + 2, rd + 3] c p := by
  refine frame_setReg (frame_setReg (frame_setReg (frame_setReg h ?_ _) ?_ _) ?_ _) ?_ _ <;> simp

/-- The instruction writes the quad rd alone, lane k with `value k`, sets CR0 to `cr0` and advances. -/
def WritesQuad (s : State) (rd : RegIdx) (value : RegIdx → Word) (cr0 : Word) (t : State) : Prop :=
  (∀ k : RegIdx, k.toNat < 4 → t.reg (rd + k) = value k) ∧ Frame s t [rd, rd + 1, rd + 2, rd + 3] cr0 (s.pc + 4)

section RunsQuad

variable {w : Word} {i : Instr} {s u : State} {rd : RegIdx} {q : Quad} {value : RegIdx → Word} {c : Word}

theorem writesQuad_setQuad (lanes : q = quadOf value) (frame : Frame s u [rd, rd + 1, rd + 2, rd + 3] c s.pc) :
    WritesQuad s rd value c (u.setQuad rd q).advance := by
  subst lanes
  exact ⟨setQuad_quadOf_reg u rd value, frame_advance (frame_setQuad frame _)⟩

theorem runs_setQuad (lanes : q = quadOf value) (exec_eq : exec i s = finish (s.setQuad rd q) := by rfl)
    (word : encode i = w := by rfl) (hi : i.wellFormed = true := by rfl) : Runs w i s (WritesQuad s rd value s.cr0) :=
  runs_of_exec (exec_eq.trans ((finish_next _ _).mpr rfl)) (writesQuad_setQuad lanes (frame_refl s _)) word hi

/-- A float-lane instruction that sets its one flag exactly when `holds`. -/
theorem runs_setFlagIf_setQuad {cond : Bool} {holds : Prop} {f : Flag} {bit : Word} (lanes : q = quadOf value)
    (same : cond = true ↔ holds) (exec_eq : exec i s = finish ((s.setFlagIf cond f).setQuad rd q) := by rfl)
    (mask : f.mask = bit := by rfl) (word : encode i = w := by rfl) (hi : i.wellFormed = true := by rfl) :
    Runs w i s (fun t => (holds → WritesQuad s rd value (s.cr0 ||| bit) t) ∧ (¬ holds → WritesQuad s rd value s.cr0 t)) := by
  classical
  have frame := frame_setFlagIf (frame_refl s [rd, rd + 1, rd + 2, rd + 3]) same mask
  refine runs_of_exec (exec_eq.trans ((finish_next _ _).mpr rfl)) ⟨fun set => ?flagged, fun clear => ?unflagged⟩ word hi
  case flagged =>
    rw [if_pos set] at frame
    exact writesQuad_setQuad lanes frame
  case unflagged =>
    rw [if_neg clear, show s.cr0 ||| 0 = s.cr0 from BitVec.or_zero] at frame
    exact writesQuad_setQuad lanes frame

end RunsQuad

/-- Settles O47: each instruction writes the quad of its lane operation, computed from the old quads; NV is asked of the results,
DZ of the divisors. -/
theorem floatQuads : Obligations.FloatQuads := by
  intro rd rs1 rs2 s
  have lanes (f : Word → Word → Word) := map2_quad f s rs1 rs2
  have someNaN (f : Word → Word → Word) := any_iff_of_lanes (lanes f) isNaN
  have someZero := any_iff_of_lanes (quad_eq_quadOf s rs2) isZero
  exact ⟨runs_setFlagIf_setQuad (lanes fadd32) (someNaN fadd32), runs_setFlagIf_setQuad (lanes fsub32) (someNaN fsub32),
    runs_setFlagIf_setQuad (lanes fmul32) (someNaN fmul32), runs_setFlagIf_setQuad (lanes divideLane) someZero,
    runs_setQuad (quad_eq_quadOf s rs1)⟩

/-! ## The bytes of a word (43_vector.md R262) -/

theorem byteAt_eq_lane (v : Word) (i : Nat) : byteAt v i = (lane v i).toNat := by
  rw [lane, field_toNat, Nat.pow_mul]
  rfl

theorem byteAt_zero (v : Word) : byteAt v 0 = v.toNat % 256 := by rw [byteAt, Nat.pow_zero, Nat.div_one]

theorem bytes_mkLanes (b0 b1 b2 b3 : Byte) :
    byteAt (mkLanes b0 b1 b2 b3) 0 = b0.toNat ∧ byteAt (mkLanes b0 b1 b2 b3) 1 = b1.toNat ∧
      byteAt (mkLanes b0 b1 b2 b3) 2 = b2.toNat ∧ byteAt (mkLanes b0 b1 b2 b3) 3 = b3.toNat := by
  simp only [byteAt, mkLanes, append_toNat]
  omega

/-- As `bytes_mkLanes`, for bytes numbered by a function. -/
theorem byteAt_mkLanes (b : Nat → Byte) : ∀ i < 4, byteAt (mkLanes (b 0) (b 1) (b 2) (b 3)) i = (b i).toNat := by
  intro i hi
  obtain ⟨h0, h1, h2, h3⟩ := bytes_mkLanes (b 0) (b 1) (b 2) (b 3)
  interval_cases i <;> assumption

theorem byteAt_mapLanes (f : Byte → Byte → Byte) (a b : Word) :
    ∀ i < 4, byteAt (mapLanes f a b) i = (f (lane a i) (lane b i)).toNat :=
  byteAt_mkLanes fun i => f (lane a i) (lane b i)

/-! ## Comparison and selection of bytes -/

theorem laneMask_toNat (c : Bool) : (laneMask c).toNat = if c then 0xFF else 0 := by cases c <;> rfl

/-- An instruction that maps `f` over the bytes, where `g` is `f` on numbers. -/
theorem runs_mapLanes {w : Word} {i : Instr} {s : State} {rd rs1 rs2 : RegIdx} {f : Byte → Byte → Byte}
    (g : Nat → Nat → Nat) (byte : ∀ x y, (f x y).toNat = g x.toNat y.toNat)
    (exec_eq : exec i s = writeBack rd (mapLanes f (s.reg rs1) (s.reg rs2)) s := by rfl) (word : encode i = w := by rfl)
    (hi : i.wellFormed = true := by rfl) :
    Runs w i s (WritesRdSuch s rd (fun v => ∀ i < 4, byteAt v i = g (byteAt (s.reg rs1) i) (byteAt (s.reg rs2) i)) s.cr0) := by
  refine runs_writesRdSuch (fun i hi => ?_) exec_eq word hi
  rw [byteAt_mapLanes f _ _ i hi, byte, byteAt_eq_lane, byteAt_eq_lane]

/-- Settles O48: each instruction is its relation or selection of two bytes, mapped over the four lanes. -/
theorem byteLaneCompareMinMax : Obligations.ByteLaneCompareMinMax := by
  intro rd rs1 rs2 s
  refine ⟨runs_mapLanes (fun x y => if x = y then 0xFF else 0) fun x y => ?eq,
    runs_mapLanes (fun x y => if x > y then 0xFF else 0) fun x y => ?gt,
    runs_mapLanes (fun x y => if x < y then 0xFF else 0) fun x y => ?lt,
    runs_mapLanes min fun x y => ?min, runs_mapLanes max fun x y => ?max⟩
  case eq => simp only [laneMask_toNat, beq_iff_eq, BitVec.toNat_inj]
  case gt => simp only [laneMask_toNat, decide_eq_true_eq]
  case lt => simp only [laneMask_toNat, decide_eq_true_eq]
  case min => rw [apply_ite BitVec.toNat, min_def]
  case max => rw [apply_ite BitVec.toNat, max_def]

/-! ## Bytes moved -/

theorem shuffleSource_eq (b : Word) (i : Nat) : shuffleSource b i = b.toNat / 4 ^ i % 4 := by
  rw [shuffleSource, field_toNat, Nat.pow_mul]
  rfl

theorem bytePos_eq {n : Nat} (v : BitVec n) : bytePos v = v.toNat % 4 := by
  rw [bytePos, BitVec.extractLsb'_toNat]
  rfl

theorem bytes_mkLanes_lane (u v w x : Word) (i j k l : Nat) :
    let r := mkLanes (lane u i) (lane v j) (lane w k) (lane x l)
    byteAt r 0 = byteAt u i ∧ byteAt r 1 = byteAt v j ∧ byteAt r 2 = byteAt w k ∧ byteAt r 3 = byteAt x l := by
  simp only [byteAt_eq_lane _ i, byteAt_eq_lane _ j, byteAt_eq_lane _ k, byteAt_eq_lane _ l]
  exact bytes_mkLanes _ _ _ _

theorem byteAt_shuffle (a b : Word) :
    ∀ i < 4, byteAt (mkLanes (lane a (shuffleSource b 0)) (lane a (shuffleSource b 1)) (lane a (shuffleSource b 2))
      (lane a (shuffleSource b 3))) i = byteAt a (b.toNat / 4 ^ i % 4) := by
  intro i hi
  rw [byteAt_mkLanes (fun j => lane a (shuffleSource b j)) i hi, ← byteAt_eq_lane, shuffleSource_eq]

theorem lane_setWidth_toNat (a : Word) (p : Nat) : ((lane a p).setWidth 32).toNat = byteAt a p := by
  rw [BitVec.toNat_setWidth_of_le (by decide), byteAt_eq_lane]

theorem insertLane_getLsbD (old a : Word) (p : Nat) {j : Nat} (hj : j < 32) :
    (insertLane old a p).getLsbD j = if 8 * p ≤ j ∧ j < 8 * p + 8 then a.getLsbD (j - 8 * p) else old.getLsbD j := by
  have ones : (0xFF : Word) = BitVec.ofNat 32 (2 ^ 8 - 1) := rfl
  simp only [insertLane, zext8, ones, BitVec.getLsbD_or, BitVec.getLsbD_and, BitVec.getLsbD_not, BitVec.getLsbD_shiftLeft,
    BitVec.getLsbD_setWidth, BitVec.getLsbD_ofNat, Nat.testBit_two_pow_sub_one]
  by_cases inside : 8 * p ≤ j ∧ j < 8 * p + 8
  · have not_below : ¬ j < 8 * p := by omega
    have low_byte : j - 8 * p < 8 := by omega
    have in_word : j - 8 * p < 32 := by omega
    simp [hj, inside, not_below, low_byte, in_word]
  · have outside : j < 8 * p ∨ ¬ j - 8 * p < 8 := by omega
    obtain below | above := outside
    · simp [hj, inside, below]
    · simp [hj, inside, above]

/-- Only lane p changes. -/
theorem lane_insertLane (old a : Word) (p : Nat) {i : Nat} (hi : i < 4) :
    lane (insertLane old a p) i = if i = p then lane a 0 else lane old i := by
  apply BitVec.eq_of_getLsbD_eq
  intro k hk
  rw [lane, BitVec.getLsbD_extractLsb', insertLane_getLsbD _ _ _ (by omega)]
  by_cases here : i = p
  · subst here
    simp [lane, hk]
  · have elsewhere : ¬ (8 * p ≤ 8 * i + k ∧ 8 * i + k < 8 * p + 8) := by omega
    simp [lane, here, elsewhere]

theorem byteAt_insertLane (old a : Word) (p : Nat) :
    ∀ i < 4, byteAt (insertLane old a p) i = if i = p then a.toNat % 256 else byteAt old i := by
  intro i hi
  rw [byteAt_eq_lane, lane_insertLane old a p hi, apply_ite BitVec.toNat, ← byteAt_eq_lane, ← byteAt_eq_lane, byteAt_zero]

/-- Settles O49: a shuffle, an interleave and an extract name the byte they take; an insert is read lane by lane. -/
theorem byteLaneMoves : Obligations.ByteLaneMoves := by
  intro rd rs1 rs2 imm s
  dsimp only
  rw [← bytePos_eq (s.reg rs2), ← bytePos_eq imm]
  exact ⟨runs_writesRdSuch (byteAt_shuffle _ _), runs_writesRdSuch (bytes_mkLanes_lane _ _ _ _ _ _ _ _),
    runs_writesRdSuch (bytes_mkLanes_lane _ _ _ _ _ _ _ _), runs_writesRdSuch (lane_setWidth_toNat _ _),
    runs_writesRdSuch (lane_setWidth_toNat _ _), runs_writesRdSuch (byteAt_insertLane _ _ _),
    runs_writesRdSuch (byteAt_insertLane _ _ _)⟩

/-! ## Packing -/

/-- The halves do not overlap, so that the disjunction of their bits is their sum. -/
theorem twoHalves_toNat (lo hi : Byte) : (twoHalves lo hi).toNat = lo.toNat + 2 ^ 16 * hi.toNat := by
  have low : lo.toNat < 2 ^ 16 := by omega
  rw [twoHalves, BitVec.toNat_or, BitVec.toNat_shiftLeft, BitVec.toNat_setWidth_of_le (by decide),
    BitVec.toNat_setWidth_of_le (by decide), Nat.shiftLeft_eq, Nat.mod_eq_of_lt (by omega), Nat.lor_comm, Nat.mul_comm,
    ← Nat.two_pow_add_eq_or_of_lt low, Nat.add_comm]

theorem twoHalves_lanes_toNat (a : Word) (i j : Nat) :
    (twoHalves (lane a i) (lane a j)).toNat = byteAt a i + 2 ^ 16 * byteAt a j := by
  rw [twoHalves_toNat, byteAt_eq_lane, byteAt_eq_lane]

/-- Settles O50: the low byte of a halfword is lane 0 or 2 of its word. -/
theorem packAndUnpack : Obligations.PackAndUnpack :=
  fun _ _ _ _ => ⟨runs_writesRdSuch (bytes_mkLanes_lane _ _ _ _ 0 2 0 2), runs_writesRdSuch (twoHalves_lanes_toNat _ _ _),
    runs_writesRdSuch (twoHalves_lanes_toNat _ _ _)⟩

end Sys2Proof.Proofs

/-! SUPPORT and PROOFS. The cache-control, MMU-control and translate instructions (44_system.md): the memory fault of an access as a
frame, the recorded page-table base as a number, and the statements about the instructions. -/

namespace Sys2Proof.Proofs

open Sys2Proof Sys2Proof.Machine Sys2Proof.Claims

/-! ## Frames of an exception and of an open value -/

/-- The CR0 bit of a memory fault, written out. -/
theorem memFault_flag_mask (e : MemFault) : e.flag.mask = faultBit e := by cases e <;> rfl

section Frames

variable {s u : State} {rds : List RegIdx} {c p : Word} (h : Frame s u rds c p)
include h

theorem frame_takeException (f : Flag) : Frame s (u.takeException f) rds (c ||| f.mask) (p + 4) :=
  frame_advance (frame_setFlag h f)

/-- The counter of open values is no state of the spec. -/
theorem frame_drawFree : Frame s u.drawFree.2 rds c p :=
  { h with system := sameSystem_trans h.system (OrdinaryEffect.refl u).drawFree.system }

theorem frame_memFault (e : MemFault) : Frame s (u.takeException e.flag) rds (c ||| faultBit e) (p + 4) :=
  memFault_flag_mask e ▸ frame_takeException h e.flag

end Frames

/-! ## Translation as an instruction -/

section Xlate

variable {s : State} {rs1 : RegIdx} (rd : RegIdx)

theorem exec_xlate_ok {pa : Word} (h : translate s (s.reg rs1) .read = .ok pa) : exec (.xlate rd rs1) s = writeBack rd pa s := by
  rw [exec, execXlate, h]

theorem exec_xlate_error {e : MemFault} (h : translate s (s.reg rs1) .read = .error e) :
    exec (.xlate rd rs1) s = .next ((s.drawFree.2.setReg rd s.drawFree.1).takeException e.flag) := by
  rw [exec, execXlate, h]

end Xlate

/-- Settles O52, by the outcome of the translation, which the MMU being off makes the identity; of the open value nothing is used but
that it is written to rd. -/
theorem translateInstruction : Obligations.TranslateInstruction := by
  intro rd rs1 s
  refine ⟨fun pa translated => ?succeeds, fun off => ?untranslated, fun e failed => ⟨?read_fault, ?fails⟩⟩
  case succeeds => exact runs_writeBack_value (exec_xlate_ok rd translated) (frame_refl s [rd])
  case untranslated => exact runs_writeBack_value (exec_xlate_ok rd (translate_off off _ .read)) (frame_refl s [rd])
  case read_fault =>
    rintro rfl
    exact translate_read_ne_writeProtect s (s.reg rs1) failed
  case fails =>
    have written := frame_setReg (frame_drawFree (frame_refl s [rd])) (List.mem_singleton_self rd) s.drawFree.1
    exact runs_of_exec (exec_xlate_error rd failed) (frame_memFault written e)

/-! ## Cache and MMU control -/

theorem alignedBase_high (v : Word) : (alignedBase v).extractLsb' 12 20 = v.extractLsb' 12 20 := by
  rw [alignedBase, BitVec.extractLsb'_and]
  exact BitVec.and_allOnes

/-- The recorded base is the operand rounded down to a page (10_state.md R36). -/
theorem alignedBase_eq_ofNat (v : Word) : alignedBase v = BitVec.ofNat 32 (v.toNat / 4096 * 4096) := by
  have low := congrArg BitVec.toNat (alignedBase_low v)
  have high := congrArg BitVec.toNat (alignedBase_high v)
  simp only [field_toNat, BitVec.ofNat_eq_ofNat, BitVec.toNat_ofNat] at low high
  apply BitVec.eq_of_toNat_eq
  rw [BitVec.toNat_ofNat]
  omega

theorem runs_supervisorOnly {w : Word} {i : Instr} {s effect : State} (supervisor : s.priv = .supervisor)
    (exec_eq : exec i s = supervisorOnly s effect := by rfl) (word : encode i = w := by rfl) (hi : i.wellFormed = true := by rfl) :
    Runs w i s (· = effect) :=
  runs_of_exec (exec_eq.trans (supervisorOnly_of_supervisor supervisor effect)) rfl word hi

/-- Settles O51: prefetch ends in the advance at once; the six others are supervisor-only, each with its effect. -/
theorem cacheAndMmuControl : Obligations.CacheAndMmuControl := by
  intro rs1 s advanced
  refine ⟨runs_of_exec rfl rfl, fun supervisor => ?supervisor, fun user i listed => ?user⟩
  case supervisor =>
    rw [← alignedBase_eq_ofNat]
    exact ⟨runs_supervisorOnly supervisor, runs_supervisorOnly supervisor, runs_supervisorOnly supervisor,
      runs_supervisorOnly supervisor, runs_supervisorOnly supervisor, runs_supervisorOnly supervisor⟩
  case user =>
    simp only [List.mem_cons, List.not_mem_nil, or_false] at listed
    obtain rfl | rfl | rfl | rfl | rfl | rfl := listed
    all_goals exact exec_gated_user rfl (by simp [Gated]) user

end Sys2Proof.Proofs

/-! SUPPORT and PROOFS. The load and store instructions (45_loadstore.md): the word that bytes read one after the other make, the memory
that bytes written one after the other leave, translations that a store does not disturb, and the statements about the instructions. -/

namespace Sys2Proof.Proofs

open Sys2Proof Sys2Proof.Machine Sys2Proof.Claims

/-! ## The addresses of an access -/

theorem add_ofNat_add_ofNat (ea : Word) (j k : Nat) :
    ea + BitVec.ofNat 32 j + BitVec.ofNat 32 k = ea + BitVec.ofNat 32 (j + k) := by
  rw [BitVec.add_assoc, BitVec.ofNat_add]

/-! ## The word that bytes make (20_memory.md R64, R70) -/

/-- The word that the loop of R70 has after `n` bytes. -/
def joinBytes (b : Nat → Byte) : Nat → Word
  | 0 => 0
  | n + 1 => joinBytes b n <<< 8 ||| (b n).setWidth 32

theorem joinBytes_succ_toNat (b : Nat → Byte) (n : Nat) :
    (joinBytes b (n + 1)).toNat = ((joinBytes b n).toNat * 256 + (b n).toNat) % 2 ^ 32 := by
  rw [joinBytes, BitVec.toNat_or, BitVec.toNat_shiftLeft, BitVec.toNat_setWidth, ← Nat.or_mod_two_pow, Nat.shiftLeft_eq,
    Nat.mul_comm, ← Nat.two_pow_add_eq_or_of_lt (b n).isLt, Nat.mul_comm]

theorem joinBytes_one_toNat (b : Nat → Byte) : (joinBytes b 1).toNat = (b 0).toNat := by
  rw [joinBytes_succ_toNat, show (joinBytes b 0).toNat = 0 from rfl]
  omega

theorem joinBytes_two_toNat (b : Nat → Byte) : (joinBytes b 2).toNat = (b 0).toNat * 256 + (b 1).toNat := by
  rw [joinBytes_succ_toNat, joinBytes_one_toNat]
  omega

theorem sext8_joinBytes (b : Nat → Byte) : sext8 (joinBytes b 1) = (b 0).signExtend 32 := by
  have low : (joinBytes b 1).setWidth 8 = b 0 := BitVec.eq_of_toNat_eq (by rw [BitVec.toNat_setWidth, joinBytes_one_toNat]; omega)
  rw [sext8, low]

theorem zext8_joinBytes (b : Nat → Byte) : zext8 (joinBytes b 1) = BitVec.ofNat 32 (b 0).toNat := by
  apply BitVec.eq_of_toNat_eq
  rw [zext8_toNat, joinBytes_one_toNat, BitVec.toNat_ofNat]
  omega

theorem sext16_joinBytes (b : Nat → Byte) : sext16 (joinBytes b 2) = (b 0 ++ b 1).signExtend 32 := by
  have low : (joinBytes b 2).setWidth 16 = b 0 ++ b 1 :=
    BitVec.eq_of_toNat_eq (by rw [BitVec.toNat_setWidth, joinBytes_two_toNat, append_toNat]; omega)
  rw [sext16, low]

theorem zext16_joinBytes (b : Nat → Byte) : zext16 (joinBytes b 2) = BitVec.ofNat 32 ((b 0).toNat * 256 + (b 1).toNat) := by
  apply BitVec.eq_of_toNat_eq
  rw [zext16_toNat, joinBytes_two_toNat, BitVec.toNat_ofNat]
  omega

theorem joinBytes_four (b : Nat → Byte) : joinBytes b 4 = b 0 ++ b 1 ++ b 2 ++ b 3 := bigEndian_word _ _ _ _

/-! ## Reading bytes -/

section Reads

variable {s : State} {ea : Word} {b : Nat → Byte}

/-- The loop of R70, entered after `j` bytes. -/
theorem memReadLoop_of_bytesRead (n : Nat) : ∀ j, BytesRead s ea (j + n) b →
    memReadLoop s n (ea + BitVec.ofNat 32 j) (joinBytes b j) = .ok (joinBytes b (j + n)) := by
  induction n with
  | zero => exact fun j _ => rfl
  | succ n ih =>
    intro j bytes
    have next := ih (j + 1) (by rwa [Nat.add_assoc, Nat.add_comm 1 n])
    rw [Nat.add_assoc, Nat.add_comm 1 n] at next
    rw [memReadLoop, bytes j (by omega)]
    rwa [← add_ofNat_add_ofNat] at next

theorem memRead_of_bytesRead {n : Nat} (bytes : BytesRead s ea n b) : memRead s ea n = .ok (joinBytes b n) := by
  have loop := memReadLoop_of_bytesRead n 0 (by rwa [Nat.zero_add])
  rwa [Nat.zero_add, BitVec.add_zero] at loop

theorem memRead_of_failing {m n : Nat} {e : MemFault} (hm : m < n) (bytes : BytesRead s ea m b)
    (failing : readByte s (ea + BitVec.ofNat 32 m) = .error e) : memRead s ea n = .error e :=
  (memReadLoop_error s e n ea 0).mpr ⟨m, hm, fun k hk => ⟨b k, bytes k hk⟩, failing⟩

theorem bytesRead_mono {m n : Nat} (h : m ≤ n) (bytes : BytesRead s ea n b) : BytesRead s ea m b :=
  fun k hk => bytes k (Nat.lt_of_lt_of_le hk h)

theorem bytesRead_drop {j n : Nat} (bytes : BytesRead s ea (j + n) b) :
    BytesRead s (ea + BitVec.ofNat 32 j) n (fun k => b (j + k)) := by
  intro k hk
  rw [add_ofNat_add_ofNat]
  exact bytes (j + k) (by omega)

/-- Reading memory reads no register. -/
theorem bytesRead_setReg {n : Nat} (r : RegIdx) (v : Word) (bytes : BytesRead s ea n b) : BytesRead (s.setReg r v) ea n b := bytes

end Reads

/-! ## Loads of one register -/

section Loads

variable {s : State} {ea : Word} {b : Nat → Byte} {n : Nat} {ext : Word → Word} {rd : RegIdx}

theorem loadRegister_of_bytesRead (bytes : BytesRead s ea n b) :
    loadRegister n ext rd ea s = writeBack rd (ext (joinBytes b n)) s := by
  rw [loadRegister, memRead_of_bytesRead bytes]

theorem loadRegister_of_failing {m : Nat} {e : MemFault} (hm : m < n) (bytes : BytesRead s ea m b)
    (failing : readByte s (ea + BitVec.ofNat 32 m) = .error e) : loadRegister n ext rd ea s = .next (s.takeException e.flag) := by
  rw [loadRegister, memRead_of_failing hm bytes failing]

/-- An instruction that is a load into one register, by the value that the extension gives the joined bytes. -/
theorem loadsBytes_of_loadRegister {w : Word} {i : Instr} {value : (Nat → Byte) → Word}
    (extended : ∀ b, ext (joinBytes b n) = value b) (exec_eq : exec i s = loadRegister n ext rd ea s := by rfl)
    (word : encode i = w := by rfl) (hi : i.wellFormed = true := by rfl) : LoadsBytes w i s rd ea n value := by
  refine ⟨fun b bytes => ?complete, fun m hm b e bytes failing => ⟨?read_fault, ?stopped⟩⟩
  case complete => exact runs_writesRd (extended b) (exec_eq.trans (loadRegister_of_bytesRead bytes)) word hi
  case read_fault =>
    rintro rfl
    exact memReadLoop_ne_writeProtect s n ea 0 (memRead_of_failing hm bytes failing)
  case stopped =>
    exact runs_of_exec (exec_eq.trans (loadRegister_of_failing hm bytes failing)) (frame_memFault (frame_refl s []) e) word hi

end Loads

section LoadInstructions

variable (rd rs1 : RegIdx) (imm : BitVec 16) (s : State)

theorem loadsBytes_ldb : LoadsBytes (wordI 0x08 rd rs1 imm) (.ldb rd rs1 imm) s rd (s.effectiveAddress rs1 imm) 1
    (fun b => (b 0).signExtend 32) :=
  loadsBytes_of_loadRegister sext8_joinBytes

theorem loadsBytes_ldbu : LoadsBytes (wordI 0x09 rd rs1 imm) (.ldbu rd rs1 imm) s rd (s.effectiveAddress rs1 imm) 1
    (fun b => BitVec.ofNat 32 (b 0).toNat) :=
  loadsBytes_of_loadRegister zext8_joinBytes

theorem loadsBytes_ldh : LoadsBytes (wordI 0x0A rd rs1 imm) (.ldh rd rs1 imm) s rd (s.effectiveAddress rs1 imm) 2
    (fun b => (b 0 ++ b 1).signExtend 32) :=
  loadsBytes_of_loadRegister sext16_joinBytes

theorem loadsBytes_ldhu : LoadsBytes (wordI 0x0B rd rs1 imm) (.ldhu rd rs1 imm) s rd (s.effectiveAddress rs1 imm) 2
    (fun b => BitVec.ofNat 32 ((b 0).toNat * 256 + (b 1).toNat)) :=
  loadsBytes_of_loadRegister zext16_joinBytes

theorem loadsBytes_ldw : LoadsBytes (wordI 0x0C rd rs1 imm) (.ldw rd rs1 imm) s rd (s.effectiveAddress rs1 imm) 4
    (fun b => b 0 ++ b 1 ++ b 2 ++ b 3) :=
  loadsBytes_of_loadRegister (ext := id) joinBytes_four

end LoadInstructions

/-- Settles O55: each of the five is one call of `loadRegister`, at the effective address. -/
theorem loadsOfOneRegister : Obligations.LoadsOfOneRegister := fun rd rs1 imm s =>
  ⟨loadsBytes_ldb rd rs1 imm s, loadsBytes_ldbu rd rs1 imm s, loadsBytes_ldh rd rs1 imm s, loadsBytes_ldhu rd rs1 imm s,
    loadsBytes_ldw rd rs1 imm s⟩

/-! ## The double load -/

section LoadDouble

variable {s : State} {rd rs1 : RegIdx} {imm : BitVec 16} {b : Nat → Byte}

theorem exec_ldd_of_first_word {hi : Word} (first : memRead s (s.effectiveAddress rs1 imm) 4 = .ok hi) :
    exec (.ldd rd rs1 imm) s = loadRegister 4 id (rd + 1) (s.effectiveAddress rs1 imm + BitVec.ofNat 32 4) (s.setReg rd hi) := by
  simp only [exec, execLdd, first]
  rfl

theorem exec_ldd_of_first_fault {e : MemFault} (first : memRead s (s.effectiveAddress rs1 imm) 4 = .error e) :
    exec (.ldd rd rs1 imm) s = .next (s.takeException e.flag) := by
  simp only [exec, execLdd, first]

theorem runs_ldd (bytes : BytesRead s (s.effectiveAddress rs1 imm) 8 b) :
    Runs (wordI 0x0D rd rs1 imm) (.ldd rd rs1 imm) s (fun t => (t.reg rd = b 0 ++ b 1 ++ b 2 ++ b 3 ∧
      t.reg (rd + 1) = b 4 ++ b 5 ++ b 6 ++ b 7) ∧ Frame s t [rd, rd + 1] s.cr0 (s.pc + 4)) := by
  have first := memRead_of_bytesRead (bytesRead_mono (m := 4) (by decide) bytes)
  have second := bytesRead_setReg rd (joinBytes b 4) (bytesRead_drop (j := 4) (n := 4) bytes)
  have pair : exec (.ldd rd rs1 imm) s = finish (s.setPair rd (joinBytes b 4) (joinBytes (fun k => b (4 + k)) 4)) :=
    (exec_ldd_of_first_word first).trans (loadRegister_of_bytesRead second)
  rw [joinBytes_four, joinBytes_four] at pair
  exact runs_setPair (fun hi lo => hi = b 0 ++ b 1 ++ b 2 ++ b 3 ∧ lo = b 4 ++ b 5 ++ b 6 ++ b 7) (frame_refl s [rd, rd + 1])
    ⟨rfl, rfl⟩ pair

end LoadDouble

/-- Settles O56, by the word in which a byte fails: the second is read after rd has been written. -/
theorem loadDouble : Obligations.LoadDouble := by
  intro rd rs1 imm s b ea w
  refine ⟨fun bytes => ?complete, fun m e low high bytes failing => ?late, fun m e hm bytes failing => ?early⟩
  case complete =>
    obtain ⟨decoded, t, next, ⟨hi, lo⟩, frame⟩ := runs_ldd bytes
    exact ⟨decoded, t, next, hi, lo, frame⟩
  case late =>
    obtain ⟨k, rfl⟩ := Nat.exists_eq_add_of_le low
    have first := memRead_of_bytesRead (bytesRead_mono low bytes)
    rw [← add_ofNat_add_ofNat] at failing
    have second := loadRegister_of_failing (ext := id) (rd := rd + 1) (n := 4) (by omega)
      (bytesRead_setReg rd (joinBytes b 4) (bytesRead_drop bytes)) failing
    have written := frame_setReg (frame_refl s [rd]) (List.mem_singleton_self rd) (joinBytes b 4)
    refine runs_of_exec ((exec_ldd_of_first_word first).trans second) ⟨?_, frame_memFault written e⟩
    rw [takeException_reg, setReg_reg_same, joinBytes_four]
  case early =>
    exact runs_of_exec (exec_ldd_of_first_fault (memRead_of_failing hm bytes failing)) (frame_memFault (frame_refl s []) e)

/-! ## Writing bytes (20_memory.md R71) -/

section Writes

variable {s t : State} {va : Word} {xs : List Byte}

theorem memWrite_append_of_written (h : memWrite s va xs = (t, none)) (ys : List Byte) :
    memWrite s va (xs ++ ys) = memWrite t (va + BitVec.ofNat 32 xs.length) ys := by
  induction xs generalizing s va with
  | nil =>
    cases h
    simp
  | cons x xs ih =>
    simp only [List.cons_append, memWrite] at h ⊢
    split at h
    case h_1 => cases h
    case h_2 u hu => rw [ih h, add_one_add_ofNat, List.length_cons]

theorem memWrite_append_of_failed {e : MemFault} (h : memWrite s va xs = (t, some e)) (ys : List Byte) :
    memWrite s va (xs ++ ys) = (t, some e) := by
  induction xs generalizing s va with
  | nil => cases h
  | cons x xs ih =>
    simp only [List.cons_append, memWrite] at h ⊢
    split at h
    case h_1 => exact h
    case h_2 u hu => exact ih h

theorem memWrite_of_bytesWritten {ea : Word} {b : Nat → Byte} {chain : Nat → State} {m : Nat}
    (written : BytesWritten s ea m b chain) : memWrite s ea ((List.range m).map b) = (chain m, none) := by
  obtain ⟨start, bytes⟩ := written
  induction m with
  | zero => rw [start]; rfl
  | succ m ih =>
    have before := ih fun k hk => bytes k (by omega)
    rw [List.range_succ, List.map_append, memWrite_append_of_written before, List.length_map, List.length_range]
    simp [memWrite, bytes m (by omega)]

theorem memWrite_of_failing {ea : Word} {b : Nat → Byte} {chain : Nat → State} {m n : Nat} {e : MemFault} (hm : m < n)
    (written : BytesWritten s ea m b chain) (failing : writeByte (chain m) (ea + BitVec.ofNat 32 m) (b m) = .error e) :
    memWrite s ea ((List.range n).map b) = (chain m, some e) := by
  obtain ⟨r, rfl⟩ := Nat.exists_eq_add_of_le hm
  rw [List.range_add, List.map_append]
  apply memWrite_append_of_failed
  rw [List.range_succ, List.map_append, memWrite_append_of_written (memWrite_of_bytesWritten written), List.length_map,
    List.length_range]
  simp [memWrite, failing]

theorem bytesWritten_memory {ea : Word} {b : Nat → Byte} {chain : Nat → State} {m : Nat}
    (written : BytesWritten s ea m b chain) : ∃ mem : Memory, chain m = { s with mem := mem } := by
  obtain ⟨mem, hmem, -, -⟩ := memWrite_memory ((List.range m).map b) s ea
  rw [memWrite_of_bytesWritten written] at hmem
  exact ⟨mem, hmem⟩

end Writes

/-! ## The bytes of a value -/

theorem bigEndianByte_toNat {w : Nat} (v : BitVec w) (n k : Nat) :
    (bigEndianByte v n k).toNat = v.toNat / 256 ^ (n - 1 - k) % 256 := BitVec.toNat_ofNat _ 8

theorem bytesOf_eq_bigEndian (n : Nat) (v : Word) : bytesOf n v = (List.range n).map (bigEndianByte v n) := by
  induction n with
  | zero => rfl
  | succ n ih =>
    have first : v.extractLsb' (8 * n) 8 = bigEndianByte v (n + 1) 0 := by
      apply BitVec.eq_of_toNat_eq
      rw [field_toNat, bigEndianByte_toNat, Nat.pow_mul]
      rfl
    have later (k : Nat) : bigEndianByte v n k = bigEndianByte v (n + 1) (k + 1) := by
      rw [bigEndianByte, bigEndianByte, show n + 1 - 1 - (k + 1) = n - 1 - k by omega]
    rw [bytesOf, ih, List.range_succ_eq_map, List.map_cons, List.map_map, first]
    exact congrArg _ (List.map_congr_left fun k _ => later k)

theorem bigEndianByte_append_high (v w : Word) {k : Nat} (hk : k < 4) : bigEndianByte (v ++ w) 8 k = bigEndianByte v 4 k := by
  apply BitVec.eq_of_toNat_eq
  rw [bigEndianByte_toNat, bigEndianByte_toNat, append_toNat, show 8 - 1 - k = 4 + (4 - 1 - k) by omega, Nat.pow_add,
    ← Nat.div_div_eq_div_mul]
  congr 2
  omega

theorem bigEndianByte_append_low (v w : Word) {k : Nat} (hk : k < 4) : bigEndianByte (v ++ w) 8 (4 + k) = bigEndianByte w 4 k := by
  apply BitVec.eq_of_toNat_eq
  rw [bigEndianByte_toNat, bigEndianByte_toNat, append_toNat, show 8 - 1 - (4 + k) = 4 - 1 - k by omega]
  obtain rfl | rfl | rfl | rfl : k = 0 ∨ k = 1 ∨ k = 2 ∨ k = 3 := by omega
  all_goals omega

theorem bytesOf_append_bytesOf (v w : Word) : bytesOf 4 v ++ bytesOf 4 w = (List.range 8).map (bigEndianByte (v ++ w) 8) := by
  rw [bytesOf_eq_bigEndian, bytesOf_eq_bigEndian, show (8 : Nat) = 4 + 4 from rfl, List.range_add, List.map_append, List.map_map]
  congr 1
  · exact List.map_congr_left fun k hk => (bigEndianByte_append_high v w (List.mem_range.mp hk)).symm
  · exact List.map_congr_left fun k hk => (bigEndianByte_append_low v w (List.mem_range.mp hk)).symm

/-! ## Stores -/

/-- A double store is one store of eight bytes. -/
theorem exec_std_eq_storeBytes (rs rs1 : RegIdx) (imm : BitVec 16) (s : State) :
    exec (.std rs rs1 imm) s =
      storeBytes (s.effectiveAddress rs1 imm) (bytesOf 4 (s.reg rs) ++ bytesOf 4 (s.reg (rs + 1))) s := by
  rcases first : memWrite s (s.effectiveAddress rs1 imm) (bytesOf 4 (s.reg rs)) with ⟨t, _ | e⟩
  · simp only [exec, execStd, first, storeBytes, memWrite_append_of_written first]
    rfl
  · simp only [exec, execStd, first, storeBytes, memWrite_append_of_failed first]

theorem storesBytes_of_storeBytes {i : Instr} {s : State} {ea : Word} {n : Nat} {b : Nat → Byte}
    (exec_eq : exec i s = storeBytes ea ((List.range n).map b) s) : StoresBytes i s ea n b := by
  intro m _ chain written
  obtain ⟨mem, hmem⟩ := bytesWritten_memory written
  refine ⟨?complete, fun e hm failing => ?stopped⟩
  case complete =>
    rintro rfl
    rw [exec_eq, storeBytes, memWrite_of_bytesWritten written, hmem]
    rfl
  case stopped =>
    rw [exec_eq, storeBytes, memWrite_of_failing hm written failing, hmem, ← memFault_flag_mask]
    rfl

/-- A store of the low bytes of one word. -/
theorem storesBytes_of_bytesOf {i : Instr} {s : State} {ea v : Word} {n : Nat}
    (exec_eq : exec i s = storeBytes ea (bytesOf n v) s := by rfl) : StoresBytes i s ea n (bigEndianByte v n) :=
  storesBytes_of_storeBytes (bytesOf_eq_bigEndian n v ▸ exec_eq)

section StoreInstructions

variable (rs rs1 : RegIdx) (imm : BitVec 16) (s : State)

theorem storesBytes_stb :
    StoresBytes (.stb rs rs1 imm) s (s.effectiveAddress rs1 imm) 1 (bigEndianByte (s.reg rs) 1) :=
  storesBytes_of_bytesOf

theorem storesBytes_sth :
    StoresBytes (.sth rs rs1 imm) s (s.effectiveAddress rs1 imm) 2 (bigEndianByte (s.reg rs) 2) :=
  storesBytes_of_bytesOf

theorem storesBytes_stw :
    StoresBytes (.stw rs rs1 imm) s (s.effectiveAddress rs1 imm) 4 (bigEndianByte (s.reg rs) 4) :=
  storesBytes_of_bytesOf

theorem storesBytes_std :
    StoresBytes (.std rs rs1 imm) s (s.effectiveAddress rs1 imm) 8 (bigEndianByte (s.reg rs ++ s.reg (rs + 1)) 8) :=
  storesBytes_of_storeBytes (by rw [← bytesOf_append_bytesOf, exec_std_eq_storeBytes])

end StoreInstructions

/-- Settles O57: each of the four is one call of `storeBytes` with the big-endian bytes of its data. -/
theorem storesByteByByte : Obligations.StoresByteByByte := fun rs rs1 imm s =>
  ⟨decode_of_encode_eq rfl rfl, decode_of_encode_eq rfl rfl, decode_of_encode_eq rfl rfl, decode_of_encode_eq rfl rfl,
    storesBytes_stb rs rs1 imm s, storesBytes_sth rs rs1 imm s, storesBytes_stw rs rs1 imm s, storesBytes_std rs rs1 imm s⟩

/-! ## Bytes that a store leaves alone -/

/-- No byte of the store is translated to the physical address `a`, each in the state its predecessors left (20_memory.md R69). -/
def Untouched (s : State) (ea : Word) (bytes : List Byte) (a : Nat) : Prop :=
  ∀ k < bytes.length, ∀ pa,
    translate (memWrite s ea (bytes.take k)).1 (ea + BitVec.ofNat 32 k) .write = .ok pa → a ≠ pa.toNat

theorem memWrite_read_untouched {a : Nat} (bytes : List Byte) : ∀ (s : State) (ea : Word), Untouched s ea bytes a →
    (memWrite s ea bytes).1.mem.read a = s.mem.read a := by
  induction bytes with
  | nil => exact fun _ _ _ => rfl
  | cons b bytes ih =>
    intro s ea untouched
    cases hw : writeByte s ea b with
    | error e => simp [memWrite, hw]
    | ok t =>
      obtain ⟨pa, translated, -, ht⟩ := (writeByte_ok s ea b t).mp hw
      have rest : Untouched t (ea + 1) bytes a := fun k hk pa h => by
        rw [add_one_add_ofNat] at h
        refine untouched (k + 1) (by simpa using hk) pa ?_
        rwa [List.take_succ_cons, memWrite, hw]
      have first : a ≠ pa.toNat := untouched 0 (by simp) pa (by rwa [BitVec.add_zero])
      calc (memWrite s ea (b :: bytes)).1.mem.read a
          = (memWrite t (ea + 1) bytes).1.mem.read a := by rw [memWrite, hw]
        _ = t.mem.read a := ih t (ea + 1) rest
        _ = s.mem.read a := by rw [ht]; exact write_read_other _ first b

theorem storeBytes_read_untouched {s t : State} {ea : Word} {bytes : List Byte} {a : Nat}
    (h : storeBytes ea bytes s = .next t) (untouched : Untouched s ea bytes a) : t.mem.read a = s.mem.read a := by
  have written := memWrite_read_untouched bytes s ea untouched
  obtain ⟨-, rfl⟩ | ⟨e, -, rfl⟩ := (storeBytes_next ea bytes s t).mp h
  · exact written
  · exact written

/-- Settles O59: the four are stores of bytes, and the end of a store writes no memory. -/
theorem storesChangeOnlyTranslatedBytes : Obligations.StoresChangeOnlyTranslatedBytes := by
  intro rs rs1 imm s t a
  refine ⟨storeBytes_read_untouched, storeBytes_read_untouched, storeBytes_read_untouched, ?double⟩
  case double =>
    rw [exec_std_eq_storeBytes]
    exact storeBytes_read_untouched

/-! ## Memory after a store whose bytes go to given addresses -/

/-- Memory after the first `n` of the bytes `b` are written to the physical addresses `pa`. -/
def writeAll (m : Memory) (pa : Nat → Word) (b : Nat → Byte) : Nat → Memory
  | 0 => m
  | n + 1 => (writeAll m pa b n).write (pa n).toNat (b n)

theorem writeAll_read_other (m : Memory) {pa : Nat → Word} (b : Nat → Byte) {n a : Nat} (other : ∀ k < n, a ≠ (pa k).toNat) :
    (writeAll m pa b n).read a = m.read a := by
  induction n with
  | zero => rfl
  | succ n ih => rw [writeAll, write_read_other _ (other n (by omega)), ih fun k hk => other k (by omega)]

theorem writeAll_read_written (m : Memory) {pa : Nat → Word} (b : Nat → Byte) {n : Nat}
    (distinct : ∀ j < n, ∀ k < j, (pa k).toNat ≠ (pa j).toNat) : ∀ k < n, (writeAll m pa b n).read (pa k).toNat = b k := by
  induction n with
  | zero => simp
  | succ n ih =>
    intro k hk
    rw [writeAll]
    obtain earlier | rfl := Nat.lt_succ_iff_lt_or_eq.mp hk
    · rw [write_read_other _ (distinct n (by omega) k earlier)]
      exact ih (fun j hj => distinct j (by omega)) k earlier
    · exact write_read_same _ _ _

/-! ## Translations that a store does not disturb -/

theorem checkPte_ok {pte va pa : Word} {priv : Priv} {acc : Access} :
    checkPte pte priv va acc = .ok pa ↔ pteValid pte = true ∧ ¬ (pteSupervisor pte = true ∧ priv = .user) ∧
      ¬ (acc = .write ∧ pteWritable pte = false) ∧ pa = pteFrame pte ++ pageOffset va := by
  unfold checkPte
  split_ifs with invalid denied readonly
  · exact iff_of_false nofun fun ⟨valid, _⟩ => Bool.false_ne_true (invalid.symm.trans valid)
  · exact iff_of_false nofun fun ⟨_, allowed, _⟩ => allowed denied
  · exact iff_of_false nofun fun ⟨_, _, writable, _⟩ => writable readonly
  · exact ⟨fun | rfl => ⟨Bool.eq_true_of_not_eq_false invalid, denied, readonly, rfl⟩, fun ⟨_, _, _, address⟩ => address ▸ rfl⟩

/-- A page that may be written may be read, at the same physical address. -/
theorem checkPte_of_write {pte va pa : Word} {priv : Priv} (h : checkPte pte priv va .write = .ok pa) (acc : Access) :
    checkPte pte priv va acc = .ok pa := by
  obtain ⟨valid, allowed, writable, address⟩ := checkPte_ok.mp h
  exact checkPte_ok.mpr ⟨valid, allowed, fun ⟨_, readonly⟩ => writable ⟨rfl, readonly⟩, address⟩

theorem translate_on_ok {s : State} {va pa : Word} {acc : Access} (on : s.mmuEn = true) (h : translate s va acc = .ok pa) :
    ∃ pte, physReadWord s (pteAddress s.ptb va) = .ok pte ∧ checkPte pte s.priv va acc = .ok pa := by
  rw [translate_on on] at h
  exact (except_bind_ok _ _ pa).mp h

/-- Translation keeps the offset in the page (20_memory.md R66, R68). -/
theorem translate_page_offset {s : State} {va pa : Word} {acc : Access} (h : translate s va acc = .ok pa) :
    pa.toNat % 4096 = va.toNat % 4096 := by
  cases mmu : s.mmuEn with
  | false =>
    rw [translate_off mmu] at h
    cases h
    rfl
  | true =>
    obtain ⟨pte, -, checked⟩ := translate_on_ok mmu h
    obtain ⟨-, -, -, rfl⟩ := checkPte_ok.mp checked
    rw [frame_append_offset, BitVec.toNat_ofNat]
    omega

/-- The `n` bytes from `ea` are translated to the bytes `pa` of memory for both kinds of access, and still are after any change of
those bytes. -/
structure StableAccess (s : State) (ea : Word) (n : Nat) (pa : Nat → Word) : Prop where
  inside : ∀ k < n, (pa k).toNat < s.memSize
  translated : ∀ m : Memory, (∀ a, (∀ j < n, a ≠ (pa j).toNat) → m.read a = s.mem.read a) →
    ∀ k < n, ∀ acc, translate { s with mem := m } (ea + BitVec.ofNat 32 k) acc = .ok (pa k)

theorem stableAccess_of_inMemory {s : State} {ea : Word} {n : Nat} (h : InMemory s ea n) :
    StableAccess s ea n (fun k => ea + BitVec.ofNat 32 k) := by
  obtain ⟨off, inside⟩ := h
  exact ⟨inside, fun m _ _ _ acc => translate_off (s := { s with mem := m }) off _ acc⟩

/-- With the MMU on, the entries of the access are not among the bytes it changes. -/
theorem stableAccess_of_mapped {s : State} {ea : Word} {n : Nat} (h : Mapped s ea n) : ∃ pa, StableAccess s ea n pa := by
  obtain ⟨on, pa, mapped, apart⟩ := h
  refine ⟨pa, fun k hk => (mapped k hk).2, fun m same k hk acc => ?_⟩
  obtain ⟨pte, read, checked⟩ := translate_on_ok on (mapped k hk).1
  obtain ⟨inside, bytes⟩ := (physReadWord_ok s _ pte).mp read
  have kept (i : Nat) (hi : i < 4) : m.read (pteAddress s.ptb (ea + BitVec.ofNat 32 k) + BitVec.ofNat 32 i).toNat =
      s.mem.read (pteAddress s.ptb (ea + BitVec.ofNat 32 k) + BitVec.ofNat 32 i).toNat :=
    same _ fun j hj => BitVec.toNat_ne_iff_ne.mpr (apart j hj k hk i hi).symm
  have reread : physReadWord { s with mem := m } (pteAddress s.ptb (ea + BitVec.ofNat 32 k)) = .ok pte :=
    (physReadWord_ok _ _ pte).mpr
      ⟨inside, by rw [kept 0 (by decide), kept 1 (by decide), kept 2 (by decide), kept 3 (by decide), bytes]⟩
  rw [translate_of_entry (s := { s with mem := m }) on reread]
  exact checkPte_of_write checked acc

theorem stableAccess_of_accessible {s : State} {ea : Word} {n : Nat} (h : Accessible s ea n) : ∃ pa, StableAccess s ea n pa :=
  h.elim (fun inMemory => ⟨_, stableAccess_of_inMemory inMemory⟩) stableAccess_of_mapped

section Stable

variable {s : State} {ea : Word} {n : Nat} {pa : Nat → Word} (stable : StableAccess s ea n pa)
include stable

/-- Fewer bytes than a page lie at distinct offsets, and so at distinct physical addresses even where two pages share a frame. -/
theorem StableAccess.distinct (small : n ≤ 4096) : ∀ j < n, ∀ k < j, (pa k).toNat ≠ (pa j).toNat := by
  intro j hj k hk same
  have offset (i : Nat) (hi : i < n) : (pa i).toNat % 4096 = (ea + BitVec.ofNat 32 i).toNat % 4096 :=
    translate_page_offset (stable.translated s.mem (fun _ _ => rfl) i hi .read)
  have offset_j := offset j hj
  have offset_k := offset k (by omega)
  rw [BitVec.toNat_add, BitVec.toNat_ofNat] at offset_j offset_k
  omega

theorem StableAccess.bytesWritten (b : Nat → Byte) : BytesWritten s ea n b (fun k => { s with mem := writeAll s.mem pa b k }) := by
  refine ⟨rfl, fun k hk => (writeByte_ok _ _ _ _).mpr ⟨pa k, ?_, stable.inside k hk, rfl⟩⟩
  exact stable.translated _ (fun a other => writeAll_read_other s.mem b fun j hj => other j (by omega)) k hk .write

/-- A store of a stable access is complete, and this is its next state. -/
theorem StableAccess.exec_store {i : Instr} {b : Nat → Byte} (stores : StoresBytes i s ea n b) :
    exec i s = .next { s with mem := writeAll s.mem pa b n, pc := s.pc + 4 } :=
  (stores n (Nat.le_refl n) _ (stable.bytesWritten b)).1 rfl

/-- The bytes stored are the bytes read afterwards; the translation does not read pc. -/
theorem StableAccess.bytesRead (small : n ≤ 4096) (b : Nat → Byte) :
    BytesRead { s with mem := writeAll s.mem pa b n, pc := s.pc + 4 } ea n b := by
  intro k hk
  refine (readByte_ok _ _ _).mpr ⟨pa k, ?_, stable.inside k hk, (writeAll_read_written _ b (stable.distinct small) k hk).symm⟩
  exact stable.translated _ (fun a => writeAll_read_other s.mem b) k hk .read

end Stable

/-! ## Stores with the MMU off -/

theorem storesAt_of_storesBytes {i : Instr} {s : State} {ea : Word} {n : Nat} {b : Nat → Byte} (small : n ≤ 4096)
    (stores : StoresBytes i s ea n b) : StoresAt i s ea n b := by
  intro inMemory
  have stable := stableAccess_of_inMemory inMemory
  exact ⟨_, stable.exec_store stores, writeAll_read_written s.mem b (stable.distinct small),
    fun a => writeAll_read_other s.mem b, fun _ => rfl, rfl, rfl, ⟨rfl, rfl, rfl, rfl, rfl, rfl, rfl, rfl, rfl, rfl, rfl⟩⟩

/-- Settles O58: untranslated bytes of memory are a stable access, so each store is complete. -/
theorem storesWithMmuOff : Obligations.StoresWithMmuOff := fun rs rs1 imm s =>
  ⟨storesAt_of_storesBytes (by decide) (storesBytes_stb rs rs1 imm s),
    storesAt_of_storesBytes (by decide) (storesBytes_sth rs rs1 imm s),
    storesAt_of_storesBytes (by decide) (storesBytes_stw rs rs1 imm s),
    storesAt_of_storesBytes (by decide) (storesBytes_std rs rs1 imm s)⟩

/-! ## The round trip (45_loadstore.md R333) -/

theorem byte_of_value (v : Word) : bigEndianByte v 1 0 = v.setWidth 8 := by
  apply BitVec.eq_of_toNat_eq
  rw [bigEndianByte_toNat, BitVec.toNat_setWidth]
  omega

theorem half_of_value (v : Word) : bigEndianByte v 2 0 ++ bigEndianByte v 2 1 = v.setWidth 16 := by
  apply BitVec.eq_of_toNat_eq
  rw [append_toNat, bigEndianByte_toNat, bigEndianByte_toNat, BitVec.toNat_setWidth]
  omega

theorem word_of_value (v : Word) :
    bigEndianByte v 4 0 ++ bigEndianByte v 4 1 ++ bigEndianByte v 4 2 ++ bigEndianByte v 4 3 = v := by
  apply BitVec.eq_of_toNat_eq
  rw [bigEndian_toNat, bigEndianByte_toNat, bigEndianByte_toNat, bigEndianByte_toNat, bigEndianByte_toNat]
  omega

/-- A store, and then a load of its bytes: the load runs in a state with the same registers and CR0, in which it reads those bytes. -/
theorem store_then_load {s : State} {store load : Instr} {rs1 : RegIdx} {imm : BitVec 16} {n : Nat} {b : Nat → Byte}
    {value : State → Prop} (small : n ≤ 4096) (accessible : Accessible s (s.effectiveAddress rs1 imm) n)
    (stores : StoresBytes store s (s.effectiveAddress rs1 imm) n b)
    (loads : ∀ t, BytesRead t (t.effectiveAddress rs1 imm) n b → ∃ u, exec load t = .next u ∧ value u ∧ u.cr0 = t.cr0) :
    ∃ t u, exec store s = .next t ∧ exec load t = .next u ∧ value u ∧ u.cr0 = s.cr0 := by
  obtain ⟨pa, stable⟩ := stableAccess_of_accessible accessible
  obtain ⟨u, next, loaded, cr0⟩ := loads _ (stable.bytesRead small b)
  exact ⟨_, u, stable.exec_store stores, next, loaded, cr0⟩

theorem load_of_loadsBytes {w : Word} {i : Instr} {s : State} {rd : RegIdx} {ea : Word} {n : Nat} {value : (Nat → Byte) → Word}
    {b : Nat → Byte} {P : Word → Prop} (loads : LoadsBytes w i s rd ea n value) (expected : P (value b)) (bytes : BytesRead s ea n b) :
    ∃ u, exec i s = .next u ∧ P (u.reg rd) ∧ u.cr0 = s.cr0 := by
  obtain ⟨-, u, next, loaded, frame⟩ := loads.1 b bytes
  exact ⟨u, next, loaded ▸ expected, frame.cr0⟩

theorem load_of_ldd {s : State} {rd rs1 : RegIdx} {imm : BitVec 16} {v w : Word}
    (bytes : BytesRead s (s.effectiveAddress rs1 imm) 8 (bigEndianByte (v ++ w) 8)) :
    ∃ u, exec (.ldd rd rs1 imm) s = .next u ∧ (u.reg rd = v ∧ u.reg (rd + 1) = w) ∧ u.cr0 = s.cr0 := by
  obtain ⟨-, u, next, ⟨first, second⟩, frame⟩ := runs_ldd (rd := rd) bytes
  have high (k : Nat) (hk : k < 4) := bigEndianByte_append_high v w hk
  have low (k : Nat) (hk : k < 4) := bigEndianByte_append_low v w hk
  rw [high 0 (by decide), high 1 (by decide), high 2 (by decide), high 3 (by decide), word_of_value] at first
  rw [low 0 (by decide), low 1 (by decide), low 2 (by decide), low 3 (by decide), word_of_value] at second
  exact ⟨u, next, ⟨first, second⟩, frame.cr0⟩

/-- Settles O60: an accessible store is a stable access, and its bytes joined again are the value. -/
theorem storeThenLoadReturnsValue : Obligations.StoreThenLoadReturnsValue := by
  intro rs rd rs1 imm s ea v trip
  refine ⟨fun h => ?ldb, fun h => ?ldbu, fun h => ?ldh, fun h => ?ldhu, fun h => ?ldw, fun h => ?ldd⟩
  case ldb =>
    refine store_then_load (by decide) h (storesBytes_stb rs rs1 imm s) fun t =>
      load_of_loadsBytes (P := (· = ((s.reg rs).setWidth 8).signExtend 32)) (loadsBytes_ldb rd rs1 imm t) ?_
    rw [byte_of_value]
  case ldbu =>
    refine store_then_load (by decide) h (storesBytes_stb rs rs1 imm s) fun t =>
      load_of_loadsBytes (P := (·.toNat = (s.reg rs).toNat % 256)) (loadsBytes_ldbu rd rs1 imm t) ?_
    rw [byte_of_value, BitVec.toNat_ofNat, BitVec.toNat_setWidth]
    omega
  case ldh =>
    refine store_then_load (by decide) h (storesBytes_sth rs rs1 imm s) fun t =>
      load_of_loadsBytes (P := (· = ((s.reg rs).setWidth 16).signExtend 32)) (loadsBytes_ldh rd rs1 imm t) ?_
    rw [half_of_value]
  case ldhu =>
    refine store_then_load (by decide) h (storesBytes_sth rs rs1 imm s) fun t =>
      load_of_loadsBytes (P := (·.toNat = (s.reg rs).toNat % 65536)) (loadsBytes_ldhu rd rs1 imm t) ?_
    rw [BitVec.toNat_ofNat, bigEndianByte_toNat, bigEndianByte_toNat]
    omega
  case ldw =>
    exact store_then_load (by decide) h (storesBytes_stw rs rs1 imm s) fun t =>
      load_of_loadsBytes (P := (· = s.reg rs)) (loadsBytes_ldw rd rs1 imm t) (word_of_value _)
  case ldd =>
    exact store_then_load (by decide) h (storesBytes_std rs rs1 imm s) fun _ => load_of_ldd

end Sys2Proof.Proofs

/-! SUPPORT and PROOFS. Exceptions and the host's interface (60_exceptions.md): every instruction goes on, the decoder events, the
levels of privilege, and what the host's load and its sessions do. -/

namespace Sys2Proof.Proofs

open Sys2Proof Sys2Proof.Machine Sys2Proof.Claims

/-! ## Every instruction answers a next state (60_exceptions.md R350) -/

/-- There is a next state. -/
def Answers (r : Result) : Prop := ∃ t, r = .next t

section Answers

theorem answers_next (t : State) : Answers (.next t) := ⟨t, rfl⟩

theorem answers_ite {c : Prop} [Decidable c] {r q : Result} (hr : Answers r) (hq : Answers q) : Answers (if c then r else q) := by
  split
  · exact hr
  · exact hq

variable (s : State)

theorem answers_supervisorOnly (effect : State) : Answers (supervisorOnly s effect) := by
  unfold supervisorOnly
  split
  · exact answers_next _
  · exact answers_next effect

theorem answers_loadRegister (n : Nat) (ext : Word → Word) (rd : RegIdx) (ea : Word) : Answers (loadRegister n ext rd ea s) := by
  unfold loadRegister
  split
  · exact answers_next _
  · exact answers_next _

theorem answers_storeBytes (ea : Word) (bytes : List Byte) : Answers (storeBytes ea bytes s) := by
  unfold storeBytes
  split
  · exact answers_next _
  · exact answers_next _

theorem answers_execLdd (rd rs1 : RegIdx) (imm : BitVec 16) : Answers (execLdd rd rs1 imm s) := by
  simp only [execLdd]
  split
  · exact answers_next _
  · exact answers_loadRegister _ 4 id (rd + 1) _

theorem answers_execXlate (rd rs1 : RegIdx) : Answers (execXlate rd rs1 s) := by
  unfold execXlate
  split
  · exact answers_next _
  · exact answers_next _

/-- An instruction has a next state whatever its operands; the cases that end differently end in next states. -/
theorem exec_answers (i : Instr) : Answers (exec i s) := by
  cases i with
  | addi | andi | ori | xori | oru | add | sub | mul | div | divu | rem | remu | muls | mulu | cmp | cmpu | and | or | xor | extu
  | mak | rot | ff1 | ff0 | sextb | zextb | sexth | zexth | fadd | fsub | fmul | fcmp | flt | vadd | vsub | vmul | vdiv | vmov | vcmpeq
  | vcmpgt | vcmplt | vmin | vmax | vshuf | vinth | vintl | vextb | vextbi | vinsb | vinsbi | vpack | vunpkl | vunpkh | trap | jmp
  | jsr | prefetch => exact answers_next _
  | beq | bne | blt | bge | bgt | ble | tbnd | divud => exact answers_ite (answers_next _) (answers_next _)
  | fdiv => exact answers_ite (answers_ite (answers_next _) (answers_next _)) (answers_next _)
  | int => exact answers_ite (answers_next _) (answers_ite (answers_next _) (answers_ite (answers_next _) (answers_next _)))
  | ldb | ldbu | ldh | ldhu | ldw => exact answers_loadRegister s _ _ _ _
  | ldd rd rs1 imm => exact answers_execLdd s rd rs1 imm
  | stb | sth | stw => exact answers_storeBytes s _ _
  | std => rw [exec_std_eq_storeBytes]; exact answers_storeBytes s _ _
  | ldcr => exact answers_ite (answers_next _) (answers_ite (answers_next _) (answers_next _))
  | stcr => exact answers_ite (answers_supervisorOnly s _) (answers_ite (answers_supervisorOnly s _) (answers_next _))
  | rte | icache | dcache | flush | inval | ldptb | tlbinv => exact answers_supervisorOnly s _
  | xlate rd rs1 => exact answers_execXlate s rd rs1

end Answers

/-- Of the effects of an instruction only that of a control register that does not exist halts the core. -/
theorem execEffect_run {i : Instr} {s t : State} (hi : i.wellFormed = true) (h : ExecEffect i s t) : t.run = s.run := by
  cases h with
  | ordinary h => exact h.system.run
  | store _ h => exact h.system.run
  | trap | rte | stcrCr0 | stcrTvec | ldptb | tlbinv => rfl
  | illegalControlRegister _ ill => cases hi.symm.trans ill

/-- Settles O20: there is a next state, and the effect that leads to it leaves run alone. -/
theorem everyInstructionGoesOn : Obligations.EveryInstructionGoesOn := by
  intro i s hi
  obtain ⟨t, next⟩ := exec_answers s i
  exact ⟨t, next, execEffect_run hi (exec_effect next)⟩

/-! ## The decoder events (60_exceptions.md R353, R354) -/

section DecoderEvents

variable {s : State}

theorem step_of_fetch_error {r : HaltReason} (running : s.run = .running) (failed : fetch s = .error r) :
    step s = .next (s.halt r) :=
  (step_next s _).mpr ⟨running, .inl ⟨r, failed, rfl⟩⟩

theorem fetch_of_misaligned (misaligned : s.pc.extractLsb' 0 2 ≠ 0) : fetch s = .error .fetchMisaligned := if_pos misaligned

theorem fetch_of_memRead_error {e : MemFault} (aligned : s.pc.extractLsb' 0 2 = 0) (failed : memRead s s.pc 4 = .error e) :
    fetch s = .error (fetchFault e) := by
  simp [fetch, aligned, failed]

/-- A fetch that fails halts with the event of the fault of the read. -/
theorem step_of_memRead_error {e : MemFault} (running : s.run = .running) (aligned : s.pc.extractLsb' 0 2 = 0)
    (failed : memRead s s.pc 4 = .error e) : step s = .next (s.halt (fetchFault e)) :=
  step_of_fetch_error running (fetch_of_memRead_error aligned failed)

end DecoderEvents

/-- Settles O10, event by event; the clauses about bytes are those about the word, by what a read of four bytes answers. -/
theorem decoderEventsHalt : Obligations.DecoderEventsHalt := by
  intro s running halts
  refine ⟨fun misaligned => step_of_fetch_error running (fetch_of_misaligned misaligned), fun aligned => ?aligned⟩
  have faults {e : MemFault} := step_of_memRead_error (e := e) running aligned
  have illegal {w : Word} {e : Reject} (read : memRead s s.pc 4 = .ok w) (rejected : decode w = .error e) :=
    step_of_illegal running (fetch_of_memRead aligned read) rejected
  exact ⟨faults, faults, fun w e => illegal,
    fun m hm b bytes => ⟨fun failing => faults (memRead_of_failing hm bytes failing),
      fun failing => faults (memRead_of_failing hm bytes failing)⟩,
    fun b e bytes => illegal (memRead_word bytes)⟩

/-! ## The level of privilege (60_exceptions.md R362) -/

/-- The same state at another level. -/
def withPriv (p : Priv) (s : State) : State := { s with priv := p }

/-- The result `r'` is `r` at the level `p`, where `r` is a next state. -/
def AtLevel (p : Priv) (r r' : Result) : Prop := ∀ t, r = .next t → r' = .next (withPriv p t)

section Level

variable {p : Priv}

/-! ### The updates of the state whose result is a case distinction -/

theorem setFlagIf_withPriv (s : State) (c : Bool) (f : Flag) : (withPriv p s).setFlagIf c f = withPriv p (s.setFlagIf c f) := by
  cases c <;> rfl

theorem setRangeFlags_withPriv (s : State) (a b r : Word) :
    (withPriv p s).setRangeFlags a b r = withPriv p (s.setRangeFlags a b r) := by
  rw [State.setRangeFlags, setFlagIf_withPriv, setFlagIf_withPriv, State.setRangeFlags]

theorem setQuad_withPriv {s s' : State} (h : s' = withPriv p s) (r : RegIdx) (q : Quad) :
    s'.setQuad r q = withPriv p (s.setQuad r q) := h ▸ rfl

/-! ### The shared ends of instructions, entered from a state and from that state at the other level -/

theorem AtLevel.ite {c : Prop} [Decidable c] {r r' q q' : Result} (hr : AtLevel p r r') (hq : AtLevel p q q') :
    AtLevel p (if c then r else q) (if c then r' else q') := by
  split
  · exact hr
  · exact hq

section Ends

variable {u u' : State} (h : u' = withPriv p u)
include h

theorem AtLevel.next : AtLevel p (.next u) (.next u') := by
  rintro _ ⟨⟩
  rw [h]

theorem AtLevel.finish : AtLevel p (finish u) (finish u') := AtLevel.next (h ▸ rfl)

theorem AtLevel.writeBack (rd : RegIdx) (v : Word) : AtLevel p (writeBack rd v u) (writeBack rd v u') :=
  AtLevel.finish (h ▸ rfl)

end Ends

theorem AtLevel.branchWhen (s : State) (taken : Bool) (off : BitVec 16) :
    AtLevel p (branchWhen taken off s) (branchWhen taken off (withPriv p s)) := .ite (.next rfl) (.finish rfl)

theorem AtLevel.divideInto (s : State) (f : Word → Word → Word) (rd rs1 rs2 : RegIdx) :
    AtLevel p (divideInto f rd rs1 rs2 s) (divideInto f rd rs1 rs2 (withPriv p s)) := .writeBack (setFlagIf_withPriv s _ _) rd _

theorem AtLevel.floatLanes (s : State) (f : Word → Word → Word) (rd rs1 rs2 : RegIdx) :
    AtLevel p (floatLanes f rd rs1 rs2 s) (floatLanes f rd rs1 rs2 (withPriv p s)) :=
  .finish (setQuad_withPriv (setFlagIf_withPriv s _ _) rd _)

/-! ### Accesses with the MMU off, which no page's S bit guards (20_memory.md R67, R68) -/

section Untranslated

variable {s : State} (off : s.mmuEn = false)
include off

theorem readByte_withPriv (va : Word) : readByte (withPriv p s) va = readByte s va := by
  rw [readByte, readByte, translate_off off, translate_off (s := withPriv p s) off]
  rfl

theorem memReadLoop_withPriv (n : Nat) : ∀ va v, memReadLoop (withPriv p s) n va v = memReadLoop s n va v := by
  induction n with
  | zero => exact fun _ _ => rfl
  | succ n ih =>
    intro va v
    simp only [memReadLoop, readByte_withPriv off, ih]

theorem memRead_withPriv (va : Word) (n : Nat) : memRead (withPriv p s) va n = memRead s va n := memReadLoop_withPriv off n va 0

theorem writeByte_withPriv (va : Word) (b : Byte) :
    writeByte (withPriv p s) va b = (writeByte s va b).map (withPriv p) := by
  rw [writeByte, writeByte, translate_off off, translate_off (s := withPriv p s) off]
  simp only [physWrite8, apply_ite (Except.map (withPriv p))]
  rfl

theorem AtLevel.loadRegister (n : Nat) (ext : Word → Word) (rd : RegIdx) (ea : Word) :
    AtLevel p (loadRegister n ext rd ea s) (loadRegister n ext rd ea (withPriv p s)) := by
  simp only [Machine.loadRegister, memRead_withPriv off]
  cases memRead s ea n with
  | error e => exact .next rfl
  | ok v => exact .writeBack rfl rd _

theorem AtLevel.execLdd (rd rs1 : RegIdx) (imm : BitVec 16) :
    AtLevel p (execLdd rd rs1 imm s) (execLdd rd rs1 imm (withPriv p s)) := by
  have address : (withPriv p s).effectiveAddress rs1 imm = s.effectiveAddress rs1 imm := rfl
  simp only [Machine.execLdd, address, memRead_withPriv off]
  cases memRead s (s.effectiveAddress rs1 imm) 4 with
  | error e => exact .next rfl
  | ok hi => exact .loadRegister (s := s.setReg rd hi) off 4 id (rd + 1) _

end Untranslated

theorem memWrite_withPriv (bytes : List Byte) : ∀ {s : State}, s.mmuEn = false → ∀ va,
    memWrite (withPriv p s) va bytes = (withPriv p (memWrite s va bytes).1, (memWrite s va bytes).2) := by
  induction bytes with
  | nil => exact fun _ _ => rfl
  | cons b bytes ih =>
    intro s off va
    simp only [memWrite, writeByte_withPriv off]
    cases written : writeByte s va b with
    | error e => rfl
    | ok t =>
      obtain ⟨pa, -, -, rfl⟩ := (writeByte_ok s va b t).mp written
      exact ih (s := { s with mem := s.mem.write pa.toNat b }) off (va + 1)

theorem AtLevel.storeBytes {s : State} (off : s.mmuEn = false) (ea : Word) (bytes : List Byte) :
    AtLevel p (storeBytes ea bytes s) (storeBytes ea bytes (withPriv p s)) := by
  simp only [Machine.storeBytes, memWrite_withPriv bytes off]
  rcases memWrite s ea bytes with ⟨t, _ | e⟩
  · exact .finish rfl
  · exact .next rfl

/-- The instructions that are not supervisor-only read the level in their translations alone. -/
theorem exec_atLevel {i : Instr} {s : State} (not_gated : ¬ Gated i) (off : s.mmuEn = false) :
    AtLevel p (exec i s) (exec i (withPriv p s)) := by
  cases i with
  | addi rd | andi rd | ori rd | xori rd | oru rd | add rd | sub rd | mul rd | and rd | or rd | xor rd | extu rd | mak rd | rot rd
  | ff1 rd | ff0 rd | sextb rd | zextb rd | sexth rd | zexth rd | flt rd | vcmpeq rd | vcmpgt rd | vcmplt rd | vmin rd | vmax rd
  | vshuf rd | vinth rd | vintl rd | vextb rd | vextbi rd | vinsb rd | vinsbi rd | vpack rd | vunpkl rd | vunpkh rd =>
    exact .writeBack (u := s) rfl rd _
  | div | divu | rem | remu => exact .divideInto s _ _ _ _
  | muls | mulu | cmp | cmpu | fcmp | vmov | prefetch => exact .finish rfl
  | divud => exact .ite (.finish rfl) (.finish rfl)
  | ldb | ldbu | ldh | ldhu | ldw => exact .loadRegister off _ _ _ _
  | ldd rd rs1 imm => exact .execLdd off rd rs1 imm
  | stb | sth | stw => exact .storeBytes off _ _
  | std => simp only [exec_std_eq_storeBytes]; exact .storeBytes off _ _
  | beq | bne | blt | bge | bgt | ble => exact .branchWhen s _ _
  | trap | jmp | jsr => exact .next rfl
  | tbnd => exact .ite (.next rfl) (.finish rfl)
  | ldcr rd => exact .ite (.writeBack rfl rd _) (.ite (.writeBack rfl rd _) (.next rfl))
  | fadd rd | fmul rd => exact .writeBack (setRangeFlags_withPriv s _ _ _) rd _
  | fsub rd => exact .writeBack (setFlagIf_withPriv s _ _) rd _
  | fdiv rd => exact .ite (.ite (.writeBack rfl rd _) (.writeBack rfl rd _)) (.writeBack (setRangeFlags_withPriv s _ _ _) rd _)
  | int rd => exact .ite (.writeBack rfl rd _) (.ite (.writeBack rfl rd _) (.ite (.writeBack rfl rd _) (.writeBack rfl rd _)))
  | vadd | vsub | vmul => exact .floatLanes s _ _ _ _
  | vdiv rd => exact .finish (setQuad_withPriv (setFlagIf_withPriv s _ _) rd _)
  | xlate rd rs1 =>
    rw [exec_xlate_ok rd (translate_off off _ _), exec_xlate_ok rd (translate_off (s := withPriv p s) off _ _)]
    exact .writeBack rfl rd _
  | rte | stcr | icache | dcache | flush | inval | ldptb | tlbinv => exact absurd (by simp [Gated]) not_gated

end Level

/-- Settles O22: with the MMU off the translations do not read the level either. -/
theorem otherInstructionsIgnorePrivilege : Obligations.OtherInstructionsIgnorePrivilege :=
  fun _ _ t _ _ not_gated off next => exec_atLevel not_gated off t next

/-! ## The host's load (60_exceptions.md R375) -/

/-- Where the bytes are in memory and not translated, the host places them as a store would. -/
theorem memWrite_eq_placeBytes {t : State} (off : t.mmuEn = false) (bytes : List Byte) : ∀ {s : State} {va : Word},
    InMemory s va bytes.length → memWrite s va bytes = (placeBytes t va bytes s, none) := by
  induction bytes with
  | nil => exact fun _ => rfl
  | cons b bytes ih =>
    rintro s va ⟨s_off, inside⟩
    have first : writeByte s va b = .ok { s with mem := s.mem.write va.toNat b } :=
      (writeByte_ok s va b _).mpr ⟨va, translate_off s_off va .write, by simpa using inside 0 (by simp), rfl⟩
    have rest : InMemory { s with mem := s.mem.write va.toNat b } (va + 1) bytes.length := by
      refine ⟨s_off, fun k hk => ?_⟩
      rw [add_one_add_ofNat]
      exact inside (k + 1) (by simpa using hk)
    simp only [memWrite, placeBytes, first, translate_off off]
    exact ih rest

theorem inMemory_of_aligned {s : State} {a : Word} (off : s.mmuEn = false) (aligned : a.toNat % 4 = 0)
    (inside : a.toNat + 3 < s.memSize) : InMemory s a 4 := by
  refine ⟨off, fun k hk => ?_⟩
  rw [BitVec.toNat_add, BitVec.toNat_ofNat]
  omega

theorem withFetchWord_of_inMemory {s : State} (inMemory : InMemory s s.pc 4) (w : Word) : s.withFetchWord 32 w.toNat =
    { s with mem := writeAll s.mem (fun k => s.pc + BitVec.ofNat 32 k) (bigEndianByte w 4) 4, run := .running } := by
  have written := memWrite_of_bytesWritten ((stableAccess_of_inMemory inMemory).bytesWritten (bigEndianByte w 4))
  rw [← bytesOf_eq_bigEndian, memWrite_eq_placeBytes inMemory.1 (bytesOf 4 w) inMemory] at written
  have word : BitVec.ofNat 32 (w.toNat % 2 ^ 32) = w := by rw [Nat.mod_eq_of_lt w.isLt, BitVec.ofNat_toNat, BitVec.setWidth_eq]
  rw [State.withFetchWord, placeWord, word, (Prod.mk.inj written).1]

/-- Settles O8: the placed bytes are the big-endian bytes of the word, and the fetch reads them back. -/
theorem placedWordRunsNext : Obligations.PlacedWordRunsNext := by
  intro s w i off aligned inside decoded
  have inMemory := inMemory_of_aligned off aligned inside
  rw [withFetchWord_of_inMemory inMemory]
  refine step_of_bytesRead rfl aligned ((stableAccess_of_inMemory inMemory).bytesRead (by decide) (bigEndianByte w 4)) ?_
  rwa [word_of_value]

/-! ## Sessions (60_exceptions.md R375) -/

theorem resetWith_inv (n : Nat) : (State.resetWith n).Inv where
  memory_canonical := reset_memory_wf
  memory_in_range _ hc := absurd hc List.not_mem_nil
  cr0_reserved_zero := BitVec.zero_and
  ptb_aligned := rfl

theorem hostAction_inv {a : HostAction} {s t : State} (hs : s.Inv) (h : a.apply s = .next t) : t.Inv := by
  have ⟨canonical, in_range, reserved, aligned⟩ := hs
  cases a with
  | step => exact stepKeepsInvariant s t hs h
  | reset n => cases h; exact resetWith_inv n
  | load pa b =>
    simp only [HostAction.apply] at h
    split at h
    case isTrue inside =>
      cases h
      exact ⟨write_wf _ _ _ canonical, write_in_range _ _ _ _ inside in_range, reserved, aligned⟩
    case isFalse => cases h
  | setCr0 v => cases h; exact ⟨canonical, in_range, writeCr0_reserved v, aligned⟩
  | setPtb v => cases h; exact ⟨canonical, in_range, reserved, alignedBase_low v⟩
  | setReg | setPc | setNip | setFip | setSxip | setSnip | setSfip | setTvec | setMmuEn | setPriv | setRun =>
    cases h
    exact ⟨canonical, in_range, reserved, aligned⟩

/-- Settles O15, by induction on the session. -/
theorem sessionKeepsInvariant : Obligations.SessionKeepsInvariant := by
  intro s reached
  induction reached with
  | reset n => exact resetWith_inv n
  | act a _ next ih => exact hostAction_inv ih next

end Sys2Proof.Proofs

/-! PROOFS. Reset (70_reset_and_hazards.md R391): the values it leaves, and the invariant that holds from there on. -/

namespace Sys2Proof.Proofs

open Sys2Proof Sys2Proof.Machine Sys2Proof.Claims

/-- Memory holds no cell after reset, and a byte without a cell reads 0. -/
@[simp] theorem resetWith_mem_read (n a : Nat) : (State.resetWith n).mem.read a = 0 := rfl

/-- Settles O12: the registers and the bytes of memory by the laws of their reads, every other piece of state as `State.resetWith`
sets it. -/
theorem resetValues : Obligations.ResetValues :=
  have registers : ∀ i, State.reset.reg i = 0 := resetWith_reg Config.defaultMemSize
  have memory : ∀ a, State.reset.mem.read a = 0 := resetWith_mem_read Config.defaultMemSize
  ⟨registers, rfl, rfl, rfl, rfl, rfl, rfl, rfl, rfl, rfl, rfl, rfl, rfl, memory, rfl⟩

/-- Settles O13: the base case of the induction over sessions (`sessionKeepsInvariant`). -/
theorem invariantAfterReset : Obligations.InvariantAfterReset := resetWith_inv

end Sys2Proof.Proofs
